-- ==== Sys2Proof/Word.lean ====
section
/-! DEFINITION. The word types of the core (00_scope R11): the register slot and data word (u32), the
byte, the 16-bit framebuffer word and the 64-bit iterator (s64, 16.32). -/

namespace Sys2Proof

/-- A memory byte (u8). -/
abbrev Byte := BitVec 8

/-- A 16-bit framebuffer or texture word (u16). -/
abbrev Half := BitVec 16

/-- A register slot, a bus offset or a bus data word (u32). -/
abbrev Word := BitVec 32

/-- A 64-bit iterator or gradient (s64). -/
abbrev DWord := BitVec 64

end Sys2Proof
end

