-- ==== Sys2Proof/Machine/Parts.lean ====
section
/-! DEFINITION. The small data types that the configuration, the instructions and the state share: the
sparse memory in its one canonical form, a gradient, a vertex, a setup-mode vertex, the statistics block. -/

namespace Sys2Proof.Machine

/-- A store of `w`-bit cells: (address, cell) pairs. An address it does not list reads 0, which is the
reset content R421 gives to registers, framebuffer RAM, texture RAM, palettes and fog tables (DEDUCED, unsafe:
notes/assumptions/13.md). `Memory 8` is a list of `Host.Cell`. -/
abbrev Memory (w : Nat) := List (Nat × BitVec w)

/-- One cell, 0 where the store lists nothing. -/
def Memory.read {w : Nat} : Memory w → Nat → BitVec w
  | [], _ => 0
  | (a, v) :: t, k => if a = k then v else Memory.read t k

/-- Write one cell, keeping the canonical form: the addresses rise strictly and no listed cell is 0. -/
def Memory.write {w : Nat} : Memory w → Nat → BitVec w → Memory w
  | [], k, v => if v = 0 then [] else [(k, v)]
  | (a, x) :: t, k, v =>
    if k < a then (if v = 0 then (a, x) :: t else (k, v) :: (a, x) :: t)
    else if k = a then (if v = 0 then t else (a, v) :: t)
    else (a, x) :: Memory.write t k v

/-- The canonical form from address `lo` on. -/
def Memory.wfFrom {w : Nat} : Nat → Memory w → Bool
  | _, [] => true
  | lo, (a, v) :: t => decide (lo ≤ a) && decide (v ≠ 0) && Memory.wfFrom (a + 1) t

/-- The canonical form: addresses strictly rising, no entry equal to what an unlisted address reads as. -/
def Memory.wf {w : Nat} (m : Memory w) : Bool := Memory.wfFrom 0 m

/-- Every listed address lies below `n`. -/
def Memory.below {w : Nat} (n : Nat) (m : Memory w) : Bool := m.all fun c => decide (c.1 < n)

/-- The store that holds `f k` at each `k < n` and 0 elsewhere. -/
def Memory.tabulate {w : Nat} (n : Nat) (f : Nat → BitVec w) : Memory w :=
  ((List.range n).map fun k => (k, f k)).filter fun c => decide (c.2 ≠ 0)

/-- An iterated parameter: its start value and its X and Y gradients (R26, R27). -/
structure Grad (w : Nat) where
  start : BitVec w
  dx : BitVec w
  dy : BitVec w
deriving DecidableEq, Repr

/-- The gradient with every part 0 (R421). -/
def Grad.zero (w : Nat) : Grad w := { start := 0, dx := 0, dy := 0 }

/-- A triangle vertex in 12.4 coordinates, s16 each (R26, R142). -/
structure Vertex where
  x : Half
  y : Half
deriving DecidableEq, Repr

/-- A setup-mode vertex: binary32 bit patterns (R26). -/
structure SetupVertex where
  x : Word
  y : Word
  a : Word
  r : Word
  g : Word
  b : Word
  z : Word
  wb : Word
  w0 : Word
  s0 : Word
  t0 : Word
  w1 : Word
  s1 : Word
  t1 : Word
deriving DecidableEq, Repr

/-- Every field +0.0 (R424). -/
def SetupVertex.zero : SetupVertex :=
  { x := 0, y := 0, a := 0, r := 0, g := 0, b := 0, z := 0, wb := 0, w0 := 0, s0 := 0, t0 := 0,
    w1 := 0, s1 := 0, t1 := 0 }

/-- The statistics block (R28). -/
structure Stats where
  pixelsIn : Word
  pixelsOut : Word
  chromaFail : Word
  zfuncFail : Word
  afuncFail : Word
  stippleCount : Word
  trianglesOut : Word
deriving DecidableEq, Repr

/-- Every counter 0 (R421). -/
def Stats.zero : Stats :=
  { pixelsIn := 0, pixelsOut := 0, chromaFail := 0, zfuncFail := 0, afuncFail := 0, stippleCount := 0,
    trianglesOut := 0 }

end Sys2Proof.Machine
end

