-- ==== Sys2Proof/Config.lean ====
section
/-! DEFINITION. What an implementation fixes (00_scope R9): the parameters that RESET takes as plain data,
the values that RESET_POLICY = ARBITRARY supplies, and the free values, which the spec leaves open. A free
value is a constant with no body: nothing can be proved about what it is. -/

namespace Sys2Proof

open Sys2Proof.Machine

/-- The chip variant (R3). -/
inductive Variant where
  | v1
  | v2
deriving DecidableEq, Repr

/-- `LODBASE_FN` (R237, D23): the default algorithm, or the implementation's own. -/
inductive LodBaseFn where
  | reference
  | implementation
deriving DecidableEq, Repr

/-- `ALPHA_BLEND_FN` (R337, D54): the factors of R337, or the implementation's own. -/
inductive AlphaBlendFn where
  | spec
  | implementation
deriving DecidableEq, Repr

/-- The codes of one field of a register, where the host's differ from the default ones: the host's code `c`
has the meaning that the default code `codes c` has. -/
structure FieldCodes where
  /-- The register's number. -/
  register : Fin 256
  /-- The field's lowest bit in the default layout. -/
  low : Fin 32
  /-- The field's width. -/
  width : Fin 9
  /-- The default code of each of the host's codes. -/
  codes : List Nat
deriving DecidableEq, Repr

/-- `REGMAP` (R9, 91_not_in_source, D5): where the host finds the registers and their fields, and how it codes
them, against the default map of R30 and R40–R63. The model numbers registers, bits, codes and banks as the
default map does. DESIGN CHOICE: notes/assumptions/4.md. -/
structure RegMap where
  /-- Entry `i` is the number of the register that stands at bus index `i`. -/
  index : List (Fin 256)
  /-- For the registers whose fields stand elsewhere: the number, and the host's place of each default bit. -/
  fields : List (Fin 256 × List (Fin 32))
  /-- The fields whose codes are others than the rules' (R44, R185, R309, R317–R320, R336, R362, R366, R380). -/
  codes : List FieldCodes
  /-- Entry `k` is the default chip-select that names the banks the host's chip-select `k` names (R21, R102,
  93 A4). -/
  chips : List (BitVec 4)
deriving DecidableEq, Repr

/-- Where a field of more than one bit stands in the default layout: `width` bits from `low` up, and above them the bits
`high`, the lowest first. The rules' fields are one run, so `high` is empty by default; a field that a correction makes
wider takes its further bits where the register has them free. -/
structure FieldPlace where
  low : Nat
  width : Nat
  high : List (Fin 32)
deriving DecidableEq, Repr

/-- The fields of fbzColorPath (R40). -/
structure ColorPathPlaces where
  rgbSelect : FieldPlace
  aSelect : FieldPlace
  alphaLocalSelect : FieldPlace
  mselect : FieldPlace
  addLocal : FieldPlace
  alphaMselect : FieldPlace
  alphaAddLocal : FieldPlace
deriving DecidableEq, Repr

/-- The fields of fogMode (R41). -/
structure FogModePlaces where
  zalpha : FieldPlace
deriving DecidableEq, Repr

/-- The fields of alphaMode (R42). -/
structure AlphaModePlaces where
  function : FieldPlace
  srcRgb : FieldPlace
  dstRgb : FieldPlace
  srcAlpha : FieldPlace
  dstAlpha : FieldPlace
  ref : FieldPlace
deriving DecidableEq, Repr

/-- The fields of fbzMode (R43). -/
structure FbzModePlaces where
  depthFunction : FieldPlace
  drawBuffer : FieldPlace
deriving DecidableEq, Repr

/-- The fields of lfbMode (R45). -/
structure LfbModePlaces where
  writeFormat : FieldPlace
  writeBuffer : FieldPlace
  readBuffer : FieldPlace
  lanes : FieldPlace
deriving DecidableEq, Repr

/-- The fields of clipLeftRight (R46). -/
structure ClipXPlaces where
  left : FieldPlace
  right : FieldPlace
deriving DecidableEq, Repr

/-- The fields of clipLowYHighY (R46). -/
structure ClipYPlaces where
  lowY : FieldPlace
  highY : FieldPlace
deriving DecidableEq, Repr

/-- The fields of zaColor (R47). -/
structure ZaColorPlaces where
  depth : FieldPlace
  alpha : FieldPlace
deriving DecidableEq, Repr

/-- The fields of textureMode (R50). -/
structure TexModePlaces where
  format : FieldPlace
  mselect : FieldPlace
  addLocal : FieldPlace
  alphaMselect : FieldPlace
  alphaAddLocal : FieldPlace
deriving DecidableEq, Repr

/-- The fields of tLOD (R51). -/
structure TLodPlaces where
  lodmin : FieldPlace
  lodmax : FieldPlace
  lodbias : FieldPlace
  aspect : FieldPlace
deriving DecidableEq, Repr

/-- The fields of tDetail (R52). -/
structure TDetailPlaces where
  max : FieldPlace
  bias : FieldPlace
  scale : FieldPlace
deriving DecidableEq, Repr

/-- The fields of fbiInit1 (R57). -/
structure FbiInit1Places where
  xVideoTiles : FieldPlace
  xVideoTilesBit5 : FieldPlace
deriving DecidableEq, Repr

/-- The fields of fbiInit2 (R58). -/
structure FbiInit2Places where
  enableTripleBuf : FieldPlace
  videoBufferOffset : FieldPlace
deriving DecidableEq, Repr

/-- The fields of fbiInit3 (R59). -/
structure FbiInit3Places where
  yoriginSubtract : FieldPlace
deriving DecidableEq, Repr

/-- The fields of fbiInit4 (R60). -/
structure FbiInit4Places where
  fifoStartRow : FieldPlace
  fifoStopRow : FieldPlace
deriving DecidableEq, Repr

/-- The fields of fbiInit5 (R61). -/
structure FbiInit5Places where
  bufferAllocation : FieldPlace
deriving DecidableEq, Repr

/-- The fields of fbiInit6 (R61). -/
structure FbiInit6Places where
  xVideoTilesBit0 : FieldPlace
deriving DecidableEq, Repr

/-- The fields of dacData (R63). -/
structure DacDataPlaces where
  data : FieldPlace
  index : FieldPlace
deriving DecidableEq, Repr

/-- The fields of more than one bit that the core reads (R40–R63). -/
structure FieldPlaces where
  colorPath : ColorPathPlaces
  fogMode : FogModePlaces
  alphaMode : AlphaModePlaces
  fbzMode : FbzModePlaces
  lfbMode : LfbModePlaces
  clipX : ClipXPlaces
  clipY : ClipYPlaces
  zaColor : ZaColorPlaces
  texMode : TexModePlaces
  tLod : TLodPlaces
  tDetail : TDetailPlaces
  fbiInit1 : FbiInit1Places
  fbiInit2 : FbiInit2Places
  fbiInit3 : FbiInit3Places
  fbiInit4 : FbiInit4Places
  fbiInit5 : FbiInit5Places
  fbiInit6 : FbiInit6Places
  dacData : DacDataPlaces
deriving DecidableEq, Repr

/-- A field of one run of bits. -/
def FieldPlace.run (low width : Nat) : FieldPlace := { low := low, width := width, high := [] }

/-- The fields as R40–R63 place them. -/
def FieldPlaces.standard : FieldPlaces :=
  { colorPath :=
      { rgbSelect := .run 0 2, aSelect := .run 2 2, alphaLocalSelect := .run 5 2, mselect := .run 10 3,
        addLocal := .run 14 2, alphaMselect := .run 19 3, alphaAddLocal := .run 23 2 },
    fogMode := { zalpha := .run 3 2 },
    alphaMode :=
      { function := .run 1 3, srcRgb := .run 8 4, dstRgb := .run 12 4, srcAlpha := .run 16 4, dstAlpha := .run 20 4,
        ref := .run 24 8 },
    fbzMode := { depthFunction := .run 5 3, drawBuffer := .run 14 2 },
    lfbMode := { writeFormat := .run 0 4, writeBuffer := .run 4 2, readBuffer := .run 6 2, lanes := .run 9 2 },
    clipX := { left := .run 16 10, right := .run 0 10 },
    clipY := { lowY := .run 16 10, highY := .run 0 10 },
    zaColor := { depth := .run 0 16, alpha := .run 24 8 },
    texMode :=
      { format := .run 8 4, mselect := .run 14 3, addLocal := .run 18 2, alphaMselect := .run 23 3,
        alphaAddLocal := .run 27 2 },
    tLod := { lodmin := .run 0 6, lodmax := .run 6 6, lodbias := .run 12 6, aspect := .run 21 2 },
    tDetail := { max := .run 0 8, bias := .run 8 6, scale := .run 14 3 },
    fbiInit1 := { xVideoTiles := .run 4 4, xVideoTilesBit5 := .run 24 1 },
    fbiInit2 := { enableTripleBuf := .run 4 1, videoBufferOffset := .run 11 9 },
    fbiInit3 := { yoriginSubtract := .run 22 10 },
    fbiInit4 := { fifoStartRow := .run 8 10, fifoStopRow := .run 18 10 },
    fbiInit5 := { bufferAllocation := .run 9 2 },
    fbiInit6 := { xVideoTilesBit0 := .run 30 1 },
    dacData := { data := .run 0 8, index := .run 8 3 } }

/-- The widths of the fields of an LFB or texture offset, and the scales of a pixel pair and of a texture column. -/
structure OffsetWidths where
  /-- The pair of pixels, in the 16-bit form (R104). -/
  lfbPairX : Nat
  /-- The row, in the 16-bit form (R104). -/
  lfbPairY : Nat
  /-- The scale of a pair of pixels, as a shift (R104). -/
  lfbPairSpan : Nat
  /-- The pixel, in the 32-bit form (R104). -/
  lfbSingleX : Nat
  /-- The row, in the 32-bit form (R104). -/
  lfbSingleY : Nat
  /-- The column, for 8-bit texels (R105). -/
  texColumn8 : Nat
  /-- The column, for 16-bit texels (R105). -/
  texColumn16 : Nat
  /-- The scale of a column, for 8-bit texels, as a shift (R105, R192). -/
  texSpan8 : Nat
  /-- The scale of a column, for 16-bit texels, as a shift (R105, R192). -/
  texSpan16 : Nat
deriving DecidableEq, Repr

/-- The fraction bits of the iterators: what the float-encoded registers are decoded with (R148), the setup path
scales by (R243) and the clamps shift out (R295). -/
structure FloatFractions where
  /-- A colour. -/
  colour : Nat
  /-- A depth. -/
  depth : Nat
  /-- S and T. -/
  tex : Nat
  /-- W. -/
  w : Nat
deriving DecidableEq, Repr

/-- The bits that a cache key leaves out, and the words it takes for others (R271). -/
structure KeyMasks where
  /-- Of fbzColorPath. -/
  colorPath : Word
  /-- Of fbzMode. -/
  fbz : Word
  /-- Of alphaMode. -/
  alpha : Word
  /-- Of alphaMode too where the alpha test is off. -/
  alphaTest : Word
  /-- Of alphaMode too where the blend is off. -/
  alphaBlend : Word
  /-- Of textureMode. -/
  texture : Word
  /-- The bits of the texture format, which its bucket takes the place of. -/
  format : Word
  /-- The lowest of these bits. -/
  formatPlace : Nat
  /-- What stands for a texture format below 8. -/
  bucketLow : BitVec 4
  /-- What stands for the formats 10 to 12. -/
  bucketDirect : BitVec 4
  /-- What stands for another texture format. -/
  bucketOther : BitVec 4
  /-- What stands for the textureMode of a unit that is not active. -/
  absent : Word
deriving DecidableEq, Repr

/-- The shifts of the fog factors, and the bits they read (R331). -/
structure FogSteps where
  /-- The floating W to the table's index. -/
  index : Nat
  /-- The floating W to the fraction of a step. -/
  fraction : Nat
  /-- The bits of that fraction. -/
  fractionBits : Nat
  /-- The bit of a delta that makes it negative. -/
  zoneBit : Nat
  /-- The step before the dither. -/
  delta : Nat
  /-- The step after the dither. -/
  dither : Nat
  /-- The clamped depth to a factor. -/
  depth : Nat
deriving DecidableEq, Repr

/-- The numbers of the reset state that no policy supplies (R421). -/
structure ResetNumbers where
  /-- The front buffer, before the layout. -/
  frontbuf : Fin 3
  /-- The back buffer, before the layout. -/
  backbuf : Fin 3
  /-- `init_enable`. -/
  initEnable : Word
  /-- The statistics block. -/
  stats : Stats
deriving DecidableEq, Repr

/-- The lowest bits of the fields of a coefficient write (R190) and of a palette write (R191), and of the parts of an
index of the NCC entries (R189). -/
structure TableFields where
  /-- From one of the four lumas to the next. -/
  luma : Nat
  /-- The 9-bit red coefficient. -/
  nccRed : Nat
  /-- The 9-bit green coefficient. -/
  nccGreen : Nat
  /-- The 9-bit blue coefficient. -/
  nccBlue : Nat
  /-- The high part of a palette index, which the word gives. -/
  index : Nat
  /-- The bits of that part of a palette index. -/
  indexBits : Nat
  /-- The low bits of a palette index, which the register's number gives. -/
  indexUp : Nat
  /-- The colour of a palette entry. -/
  colour : Nat
  /-- The bits of that colour. -/
  colourBits : Nat
  /-- The alpha of a V2 palette entry. -/
  alpha : Nat
  /-- The red of a V2 palette entry. -/
  red : Nat
  /-- The green of a V2 palette entry. -/
  green : Nat
  /-- The blue of a V2 palette entry. -/
  blue : Nat
  /-- The bits of each of these four. -/
  channelBits : Nat
  /-- The 4-bit luma of an NCC index. -/
  entryY : Nat
  /-- The 2-bit I of an NCC index. -/
  entryI : Nat
  /-- The 2-bit Q of an NCC index. -/
  entryQ : Nat
deriving DecidableEq, Repr

/-- The shifts of a texture coordinate (R194, R196, R197, R199). -/
structure TexSteps where
  /-- The product of the reciprocal W and a coordinate to 14.18. -/
  perspective : Nat
  /-- A 16.32 coordinate to 14.18. -/
  affine : Nat
  /-- A 14.18 coordinate to its texel. -/
  point : Nat
  /-- A 14.18 coordinate to a texel with the fraction bits of the bilinear filter. -/
  bilinear : Nat
  /-- The fraction bits of the bilinear filter (R197, R199). -/
  fraction : Nat
deriving DecidableEq, Repr

/-- How a 6-bit field becomes a signed x.8 number: shifted up, sign-extended, shifted. -/
structure BiasSteps where
  align : Nat
  width : Nat
  shift : Nat
deriving DecidableEq, Repr

/-- The integer bits that a clamped conversion wraps at, and the bits of its result (R295). -/
structure WrapBits where
  /-- A colour. -/
  colour : Nat
  /-- A depth. -/
  depth : Nat
  /-- W. -/
  w : Nat
  /-- The result for a colour or W. -/
  byte : Nat
  /-- The result for a depth. -/
  half : Nat
deriving DecidableEq, Repr

/-- The floating encoding of W (R296) and of Z (R297). -/
structure FloatSteps where
  /-- The mantissa bits. -/
  mantissa : Nat
  /-- The least fraction that is encoded. -/
  limit : Nat
  /-- The code of a fraction below it. -/
  far : Nat
  /-- The code of a number of 1 or more. -/
  near : Nat
  /-- What is added to exponent and mantissa. -/
  plus : Nat
  /-- The integer bits of an iterated Z that its encoding drops (R297). -/
  zShift : Nat
deriving DecidableEq, Repr

/-- How a short colour channel becomes a byte (R186, R335, R365), and a byte a short one (R339). -/
structure Expansions where
  /-- 2 bits: the factor. -/
  two : Nat
  /-- 3 bits: the shifts of the three copies, the last one down. -/
  threeUp : Nat
  threeMid : Nat
  threeDown : Nat
  /-- 4 bits: the factor. -/
  four : Nat
  /-- 5 bits: the shifts of the two copies, the second one down. -/
  fiveUp : Nat
  fiveDown : Nat
  /-- 6 bits: the shifts of the two copies, the second one down. -/
  sixUp : Nat
  sixDown : Nat
  /-- 5 bits of the destination colour: the shift (R335). -/
  destFive : Nat
  /-- 6 bits of the destination colour: the shift (R335). -/
  destSix : Nat
  /-- A byte to 5 bits: the shift (R339, R367). -/
  dropFive : Nat
  /-- A byte to 6 bits: the shift (R339, R367). -/
  dropSix : Nat
  /-- The alpha of an opaque colour (R186, R189, R191, R365). -/
  solid : Byte
deriving DecidableEq, Repr

/-- The lowest bits of the three channels of a packed colour. -/
structure ColourPlaces where
  r : Nat
  g : Nat
  b : Nat
deriving DecidableEq, Repr

/-- Where the static tables find the channels of a texel (R186), and a fetch the bytes of a 16-bit one (R198). -/
structure TexelPlaces where
  rgb332 : ColourPlaces
  rgb565 : ColourPlaces
  argb1555 : ColourPlaces
  argb4444 : ColourPlaces
  /-- The alpha bit of argb1555. -/
  alpha1 : Nat
  /-- The alpha of argb4444. -/
  alpha4 : Nat
  /-- The alpha of ai44, and its intensity. -/
  alphaAi : Nat
  intensityAi : Nat
  /-- The alpha of a 16-bit texel whose other byte is looked up (R198). -/
  alphaByte : Nat
  /-- The byte of a 16-bit texel that is looked up (R198). -/
  indexByte : Nat
deriving DecidableEq, Repr

/-- Where an LFB write finds the channels of a pixel (R365): the orders ARGB and ABGR, and below them RGBA and
BGRA. -/
structure LanePlaces where
  rgb565 : ColourPlaces
  high15 : ColourPlaces
  high32 : ColourPlaces
  /-- The alpha bit of 1555. -/
  highAlpha1 : Nat
  /-- The alpha of 8888. -/
  highAlpha8 : Nat
  low15 : ColourPlaces
  low32 : ColourPlaces
  lowAlpha1 : Nat
  lowAlpha8 : Nat
deriving DecidableEq, Repr

/-- Where the parts of a 32-bit word stand: the two pixels of an LFB write and their byte masks (R84, R362, R364), the two
pixels of an LFB read (R371), and the texels of an upload (R84, R192). -/
structure WordParts where
  /-- The first pixel of a write. -/
  writeFirst : Nat
  /-- The second pixel of a write, or its depth. -/
  writeSecond : Nat
  /-- The mask bits of the first pixel. -/
  maskFirst : Nat
  /-- The mask bits of the second pixel. -/
  maskSecond : Nat
  /-- The first pixel of a read. -/
  readFirst : Nat
  /-- The second pixel of a read. -/
  readSecond : Nat
  /-- From one 8-bit texel of an upload to the next. -/
  texelByte : Nat
  /-- From one 16-bit texel of an upload to the next. -/
  texelHalf : Nat
deriving DecidableEq, Repr

/-- Where the buffers stand, in multiples of the configured pages (R380). -/
structure BufferPages where
  /-- The second colour buffer. -/
  second : Nat
  /-- The third colour buffer. -/
  third : Nat
  /-- The aux buffer after two colour buffers. -/
  auxTwo : Nat
  /-- The aux buffer after three colour buffers. -/
  auxThree : Nat
deriving DecidableEq, Repr

/-- The places of the parts of the V2 tile count (R381). -/
structure TileShifts where
  /-- The 4-bit field. -/
  count : Nat
  /-- x_video_tiles_bit5. -/
  bit5 : Nat
  /-- x_video_tiles_bit0. -/
  bit0 : Nat
deriving DecidableEq, Repr

/-- The numbers of the default LOD base (R237). -/
structure LodBaseSteps where
  /-- A 16.32 gradient to 14.18. -/
  gradient : Nat
  /-- What is added to the logarithm, in whole levels. -/
  levels : Nat
  /-- What the sum is divided by. -/
  divisor : Int
deriving DecidableEq, Repr

/-- A multiply by a factor: what the factor is raised by, and the shift after it. -/
structure FactorStep where
  plus : Int
  shift : Nat
deriving DecidableEq, Repr

/-- The multiplies by a factor. -/
structure FactorSteps where
  /-- The texture combine (R311). -/
  texture : FactorStep
  /-- The shift of the detail factor (R313). -/
  detail : Nat
  /-- The colour combine (R320). -/
  colour : FactorStep
  /-- The fog (R330). -/
  fog : FactorStep
  /-- The blend (R336, R337). -/
  blend : FactorStep
deriving DecidableEq, Repr

/-- The shifts of the dither of a colour (R339), the first of each channel also those of the dither subtraction
(R335). -/
structure DitherShifts where
  /-- Red and blue up, and down again after the sum. -/
  rbUp : Nat
  /-- The part of red and blue that is taken off. -/
  rbOff : Nat
  /-- The part of red and blue that is put on. -/
  rbOn : Nat
  /-- Green up, and down again after the sum. -/
  gUp : Nat
  /-- The part of green that is taken off. -/
  gOff : Nat
  /-- The part of green that is put on. -/
  gOn : Nat
deriving DecidableEq, Repr

/-- The numbers of the fast reciprocal (R345, R346). -/
structure RecipSteps where
  /-- The fraction bits of a table entry. -/
  entry : Nat
  /-- The fraction bits between two table entries. -/
  lerp : Nat
  /-- The bit that rounds the logarithm. -/
  logRound : Nat
  /-- The shift of the logarithm to x.8. -/
  logShift : Nat
  /-- What is added to the exponent for the logarithm. -/
  logBias : Int
  /-- What is taken off the exponent of the reciprocal. -/
  bias : Nat
deriving DecidableEq, Repr

/-- The constants that the rules give from general knowledge and that R9 does not name, each with the rule that
states its default (R19, D5; DESIGN CHOICE, safe: notes/assumptions/40.md). -/
structure Constants where
  /-- The fraction bits of a vertex coordinate (R14, R142, R148, R233, R234, R238, R243). -/
  vertexFrac : Nat
  /-- The fields of the control registers. -/
  fields : FieldPlaces
  /-- The widths of the fields of an LFB or texture offset. -/
  offsets : OffsetWidths
  /-- The init_enable bit that makes fbiInit2 read the DAC (R24, R160). -/
  dacReadBit : Fin 32
  /-- The DAC register that reads back `DAC_READ5` (R159). -/
  dacIdRegister : Nat
  /-- The width of a colour iterator register (R143). -/
  colourBits : Nat
  /-- The shift of a W register to 16.32 (R146). -/
  wShift : Nat
  /-- The fraction bits of the iterators (R148, R243, R295). -/
  floats : FloatFractions
  /-- The fraction bits of a LOD (R181, R194, R237, R309, R345). -/
  lodFrac : Nat
  /-- The shift of the two LOD limits to x.8 (R181). -/
  lodShift : Nat
  /-- The LOD bias to x.8 (R181). -/
  lodBias : BiasSteps
  /-- The width or height of LOD 0 on the wider axis, less 1 (R183). -/
  lodZeroMask : Byte
  /-- The bits of texBaseAddr that count (R184). -/
  texBaseMask : Nat
  /-- The scale of texBaseAddr (R184). -/
  texBaseShift : Nat
  /-- The first level that `LOD_MIN_SIZE` bounds (R184). -/
  lodMinFrom : Nat
  /-- The detail bias to x.8 (R188). -/
  detailBias : BiasSteps
  /-- How a short colour channel becomes a byte. -/
  expand : Expansions
  /-- The channels of a texel. -/
  texels : TexelPlaces
  /-- The channels of an LFB pixel. -/
  lanes : LanePlaces
  /-- The channels of a framebuffer word (R335, R339). -/
  pixel : ColourPlaces
  /-- The parts of an LFB or texture word. -/
  parts : WordParts
  /-- The fields of a coefficient and of a palette write. -/
  tables : TableFields
  /-- The shifts of a texture coordinate. -/
  tex : TexSteps
  /-- The shift of the LOD dither (R194). -/
  lodDitherShift : Nat
  /-- The offset of a bilinear sample, half a texel (R197). -/
  bilinearCentre : Nat
  /-- The numbers of the default LOD base. -/
  lodBase : LodBaseSteps
  /-- What is taken off the vertex count for the parity of a strip (R242). -/
  cullParity : Word
  /-- The bits that a cache key leaves out (R271). -/
  keys : KeyMasks
  /-- The bits of a flipped row (R292, R367, R371). -/
  screenYBits : Nat
  /-- The bits of a row and of a column that the stipple pattern reads (R294). -/
  stippleRows : Nat
  stippleColumns : Nat
  /-- How far the stipple rotates (R293). -/
  stippleStep : Nat
  /-- The stipple bit that a pixel passes with (R293). -/
  stippleTested : Fin 32
  /-- rgbzw_clamp clamps under V1 too, as R295 says, not under V2 alone, as R40 says (DEDUCED:
  notes/assumptions/28.md). -/
  clampV1 : Bool
  /-- cca_localselect 3 gives the clamped W under V1 too, as R318 says, not under V2 alone, as R40 says (DEDUCED:
  notes/assumptions/28.md). -/
  localWV1 : Bool
  /-- The integer bits that a clamped conversion wraps at. -/
  wraps : WrapBits
  /-- The floating encoding of W and Z. -/
  floating : FloatSteps
  /-- The LOD minimum from which on a unit is passed over (R305). -/
  lodOff : Int
  /-- The shifts of the fog table factor (R331). -/
  fog : FogSteps
  /-- The multiplies by a factor. -/
  factors : FactorSteps
  /-- The destination alpha where no aux buffer holds one (R335). -/
  plainAlpha : Byte
  /-- The dither value from which the blend subtracts (R335). -/
  ditherTop : Int
  /-- `DITHER4`, row by row (R338). -/
  dither4 : List Nat
  /-- `DITHER2`, row by row (R338). -/
  dither2 : List Nat
  /-- The shifts of the dither of a colour. -/
  ditherShifts : DitherShifts
  /-- The numbers of the fast reciprocal. -/
  recip : RecipSteps
  /-- The reciprocal of 0; of a negative 0 its complement (R345). -/
  zeroRecip : Int
  /-- The logarithm of 0, 1000.0 in x.8 (R345). -/
  zeroLog : Int
  /-- The shift of an LFB depth to the iterated Z (R369). -/
  lfbZShift : Nat
  /-- The shift of an LFB depth to the iterated W (R369). -/
  lfbWShift : Nat
  /-- Cull a triangle whose sign matches the cull sign, not one whose sign differs (R242, D14). -/
  cullOnMatch : Bool
  /-- fastfill gives an alpha plane zaColor[31:24], as R47 says, not zaColor[15:0], as R384 says (DEDUCED:
  notes/assumptions/41.md). -/
  fillAlphaPlane : Bool
  /-- Where the buffers stand. -/
  buffers : BufferPages
  /-- The places of the parts of the tile count. -/
  tiles : TileShifts
  /-- The bytes of a word of the memory FIFO (R382). -/
  fifoWordBytes : Nat
  /-- The bits of a count in the swap history (R387). -/
  historyBits : Nat
  /-- The numbers of the reset state. -/
  reset : ResetNumbers
deriving DecidableEq, Repr

/-- The stated values. -/
def Constants.standard : Constants :=
  { vertexFrac := 4, fields := FieldPlaces.standard,
    offsets :=
      { lfbPairX := 9, lfbPairY := 10, lfbPairSpan := 1, lfbSingleX := 10, lfbSingleY := 10, texColumn8 := 6,
        texColumn16 := 7, texSpan8 := 2, texSpan16 := 1 },
    dacReadBit := 2, dacIdRegister := 5, colourBits := 24, wShift := 16,
    floats := { colour := 12, depth := 12, tex := 32, w := 32 },
    lodFrac := 8, lodShift := 6, lodBias := { align := 2, width := 8, shift := 4 }, lodZeroMask := 0xFF,
    texBaseMask := 0x0FFFFF, texBaseShift := 3, lodMinFrom := 3, detailBias := { align := 2, width := 8, shift := 6 },
    expand :=
      { two := 0x55, threeUp := 5, threeMid := 2, threeDown := 1, four := 0x11, fiveUp := 3, fiveDown := 2, sixUp := 2,
        sixDown := 4, destFive := 3, destSix := 2, dropFive := 3, dropSix := 2, solid := 0xFF },
    texels :=
      { rgb332 := { r := 5, g := 2, b := 0 }, rgb565 := { r := 11, g := 5, b := 0 },
        argb1555 := { r := 10, g := 5, b := 0 }, argb4444 := { r := 8, g := 4, b := 0 }, alpha1 := 15, alpha4 := 12,
        alphaAi := 4, intensityAi := 0, alphaByte := 8, indexByte := 0 },
    lanes :=
      { rgb565 := { r := 11, g := 5, b := 0 }, high15 := { r := 10, g := 5, b := 0 },
        high32 := { r := 16, g := 8, b := 0 }, highAlpha1 := 15, highAlpha8 := 24,
        low15 := { r := 11, g := 6, b := 1 }, low32 := { r := 24, g := 16, b := 8 }, lowAlpha1 := 0, lowAlpha8 := 0 },
    pixel := { r := 11, g := 5, b := 0 },
    parts :=
      { writeFirst := 0, writeSecond := 16, maskFirst := 0, maskSecond := 2, readFirst := 0, readSecond := 16,
        texelByte := 8, texelHalf := 16 },
    tables :=
      { luma := 8, nccRed := 18, nccGreen := 9, nccBlue := 0, index := 24, indexBits := 7, indexUp := 1,
        colour := 0, colourBits := 24, alpha := 18, red := 12, green := 6, blue := 0, channelBits := 6,
        entryY := 4, entryI := 2, entryQ := 0 },
    tex := { perspective := 29, affine := 14, point := 18, bilinear := 10, fraction := 8 },
    lodDitherShift := 4, bilinearCentre := 0x80, lodBase := { gradient := 14, levels := 12, divisor := 2 },
    cullParity := 3,
    keys :=
      { colorPath := 0x0C000000, fbz := 0x0000C000, alpha := 0xFF000000, alphaTest := 0x0000000E,
        alphaBlend := 0x00FFFF00, texture := 0x80000020, format := 0x00000F00, formatPlace := 8, bucketLow := 0,
        bucketDirect := 10, bucketOther := 8, absent := 0xFFFFFFFF },
    screenYBits := 10, stippleRows := 2, stippleColumns := 3, stippleStep := 1, stippleTested := 31,
    clampV1 := true, localWV1 := true,
    wraps := { colour := 12, depth := 20, w := 16, byte := 8, half := 16 },
    floating := { mantissa := 12, limit := 0x10000, far := 0xFFFF, near := 0, plus := 1, zShift := 4 },
    lodOff := 0x800,
    fog := { index := 10, fraction := 2, fractionBits := 8, zoneBit := 1, delta := 6, dither := 4, depth := 8 },
    factors :=
      { texture := { plus := 1, shift := 8 }, detail := 8, colour := { plus := 1, shift := 8 },
        fog := { plus := 1, shift := 8 }, blend := { plus := 1, shift := 8 } },
    plainAlpha := 0xFF,
    ditherTop := 15, dither4 := [0, 8, 2, 10, 12, 4, 14, 6, 3, 11, 1, 9, 15, 7, 13, 5],
    dither2 := [2, 10, 2, 10, 14, 6, 14, 6, 2, 10, 2, 10, 14, 6, 14, 6],
    ditherShifts := { rbUp := 1, rbOff := 4, rbOn := 7, gUp := 2, gOff := 4, gOn := 6 },
    recip := { entry := 22, lerp := 8, logRound := 13, logShift := 14, logBias := 1, bias := 6 },
    zeroRecip := 0x7FFFFFFF, zeroLog := 256000, lfbZShift := 12, lfbWShift := 14, cullOnMatch := false,
    fillAlphaPlane := false, buffers := { second := 1, third := 2, auxTwo := 2, auxThree := 3 },
    tiles := { count := 1, bit5 := 5, bit0 := 0 }, fifoWordBytes := 4, historyBits := 4,
    reset := { frontbuf := 0, backbuf := 1, initEnable := 0, stats := Stats.zero } }

/-- The parameters of 00_scope R9 that a RESET supplies (R420). -/
structure Config where
  /-- `VARIANT`. -/
  variant : Variant
  /-- `NTMU`, 0 to 2 (R232 says what 0 means). -/
  ntmu : Fin 3
  /-- `FBMEM_BYTES`. -/
  fbmemBytes : Nat
  /-- `TMUMEM_BYTES`. -/
  tmumemBytes : Nat
  /-- `CACHE_MAX`. -/
  cacheMax : Nat
  /-- `RECIP_LOOKUP_BITS` (R346, D31): the tables have `2^N + 1` entries (DEDUCED for N other than 9:
  notes/assumptions/4.md). -/
  recipLookupBits : Fin 24
  /-- `LOD_MIN_SIZE` (R184, D59). -/
  lodMinSize : Nat
  /-- `BILINEAR_MASK` (R197). -/
  bilinearMask : Byte
  /-- `FOGDELTA_MASK` (R331). -/
  fogDeltaMask : Byte
  /-- `TILE_W` (R381). -/
  tileW : Nat
  /-- `TILE_H` (R381). -/
  tileH : Nat
  /-- `PAGE_BYTES` (R380). -/
  pageBytes : Nat
  /-- `FIFO_MAX_WORDS` (R382). -/
  fifoMaxWords : Nat
  /-- `STAT_BITS` (R140, D19). -/
  statBits : Nat
  /-- `ALOCAL_Z_BYTE` (R318, D18): 0 the low byte of the clamped Z, 1 the high byte. -/
  alocalZByte : Fin 2
  /-- `ALPHA_BLEND_FN` (R337). -/
  alphaBlend : AlphaBlendFn
  /-- `LODBASE_FN` (R237). -/
  lodBase : LodBaseFn
  /-- `SWAP_NOSWAP_BIT` (R386); `none` where the variant has no such bit. -/
  swapNoswapBit : Option (Fin 32)
  /-- `LFB_RAW_MASKS` (R367, D56). -/
  lfbRawMasks : Bool
  /-- `REGMAP` (R30, R40–R63, D5): `none` is the default map. -/
  regMap : Option RegMap
  /-- `ACCESS` (R31, D6): `none` is the default table of R30; `some t` gives register `i` the flags
  `t i`, bit 0 readable, bit 1 writable, bit 2 pipelined, bit 3 FIFO-routed. -/
  access : Option (Memory 4)
  /-- `ALIAS_SEL` (R103, D11, OPEN): offset bit `12 + n`, outside the index and chip-select fields of R101
  (DESIGN CHOICE, unsafe in that one point: notes/assumptions/6.md); `none` leaves it free. -/
  aliasSel : Option (Fin 20)
  /-- `ALIAS_MAP` (R103, D11, OPEN), 64 indices; `none` leaves it free. -/
  aliasMap : Option (Memory 8)
  /-- `DAC_READ5` (R159, D38, OPEN); `none` leaves it free. -/
  dacRead5 : Option Byte
  /-- The constants of R19. -/
  constants : Constants
deriving DecidableEq, Repr

/-- The defaults of R9 with one texture unit and 2 MiB memories, the sizes of 95's start state S0. A parameter
that R9 leaves OPEN is free. -/
def Config.standard (v : Variant) : Config :=
  { variant := v, ntmu := 1, fbmemBytes := 0x200000, tmumemBytes := 0x200000, cacheMax := 1024,
    recipLookupBits := 9, lodMinSize := 4,
    bilinearMask := (match v with | .v1 => 0xF0 | .v2 => 0xFF),
    fogDeltaMask := (match v with | .v1 => 0xFF | .v2 => 0xFC),
    tileW := (match v with | .v1 => 64 | .v2 => 32),
    tileH := (match v with | .v1 => 16 | .v2 => 32),
    pageBytes := 4096, fifoMaxWords := 131072, statBits := 24, alocalZByte := 0,
    alphaBlend := .spec, lodBase := .reference, swapNoswapBit := some 9, lfbRawMasks := true,
    regMap := none, access := none, aliasSel := none, aliasMap := none, dacRead5 := none,
    constants := Constants.standard }

/-- The state that R421 marks A for one texture unit: its RAM, iterators and palettes. -/
structure UnitValues where
  ram : Memory 8
  s : Grad 64
  t : Grad 64
  w : Grad 64
  palette : Memory 32
  palettea : Memory 32
deriving DecidableEq, Repr

/-- The state that R421 marks A: arguments of RESET under `RESET_POLICY = ARBITRARY`. -/
structure ResetValues where
  regs : Memory 32
  dacReg : Memory 8
  dacReadResult : Byte
  fbRam : Memory 8
  va : Vertex
  vb : Vertex
  vc : Vertex
  r : Grad 32
  g : Grad 32
  b : Grad 32
  a : Grad 32
  z : Grad 32
  w : Grad 64
  fogblend : Memory 8
  fogdelta : Memory 8
  svert0 : SetupVertex
  svert1 : SetupVertex
  svert2 : SetupVertex
  tmu0 : UnitValues
  tmu1 : UnitValues
deriving DecidableEq, Repr

/-- `RESET_POLICY` (R9, D24): the values of R421, or the host's own. -/
inductive ResetPolicy where
  | reference
  | arbitrary (values : ResetValues)
deriving DecidableEq, Repr

/-! ## Free values -/

/-- `ALIAS_SEL` where RESET leaves it free. DESIGN CHOICE: notes/assumptions/6.md. -/
opaque Config.freeAliasSel : Fin 20

/-- `ALIAS_MAP` where RESET leaves it free. DESIGN CHOICE, safe: notes/assumptions/6.md. -/
opaque Config.freeAliasMap : BitVec 6 → BitVec 8

/-- `DAC_READ5` where RESET leaves it free. DESIGN CHOICE, safe: notes/assumptions/7.md. -/
opaque Config.freeDacRead5 : Byte

/-- `LODBASE_FN` of an implementation that does not use the default (R237, D23, OPEN): the LOD base
from the unit's dsdx, dtdx, dsdy, dtdy. DESIGN CHOICE: notes/assumptions/8.md. -/
opaque Config.lodBaseImpl : DWord → DWord → DWord → DWord → Int

/-- `ALPHA_BLEND_FN` of an implementation that does not use the default (R337, D54): the sum before the
clamp, from the two factor codes, the source alpha and the destination alpha. DESIGN CHOICE:
notes/assumptions/8.md. -/
opaque Config.alphaBlendImpl : Nat → Nat → Int → Int → Int

/-- The 16-bit word a pipeline read outside framebuffer RAM returns (R88, D29), at the n-th draw.
DESIGN CHOICE, safe: notes/assumptions/9.md. -/
opaque Config.drawPixel : Nat → Half

/-- Status bit 6, the vertical retrace (R62, D20), at the n-th draw. DESIGN CHOICE, safe:
notes/assumptions/9.md. -/
opaque Config.drawRetrace : Nat → Bool

/-- What vRetrace and hvRetrace read (R139, D20), at the n-th draw. DESIGN CHOICE, safe:
notes/assumptions/9.md. -/
opaque Config.drawTiming : Nat → Word

/-- What a read of a texture-only register returns when its chip-select names no present texture bank,
which R102 does not say, at the n-th draw. DESIGN CHOICE, safe: notes/assumptions/14.md. -/
opaque Config.drawUnselected : Nat → Word

/-- `floor(xb + 1/2)` on the one scanline where R233's short edge is flat and its formula divides by
zero, from the X of the edge's two ends (12.4) and the row. DESIGN CHOICE: notes/assumptions/10.md. -/
opaque Config.flatEdge : Int → Int → Int → Int

end Sys2Proof
end

