-- ==== Sys2Proof/Machine/Bits.lean ====
section
/-! DEFINITION. Bit fields, sign extension, byte order and clamping (00_scope R10, R11). Every field of
the model is read by these. -/

namespace Sys2Proof.Machine

/-- `v[lo+n-1 : lo]`, the unsigned field (R10). -/
def field {w : Nat} (v : BitVec w) (lo n : Nat) : Nat := (v.toNat >>> lo) % 2 ^ n

/-- `v[i]` (R10). -/
def bit {w : Nat} (v : BitVec w) (i : Nat) : Bool := v.getLsbD i


/-- `sext_n` of an unsigned `n`-bit value (R11). -/
def sext (n x : Nat) : Int := if 2 * x < 2 ^ n then (x : Int) else (x : Int) - 2 ^ n

/-- `clamp(x, lo, hi) = min(max(x, lo), hi)` (R11). -/
def clampInt (x lo hi : Int) : Int :=
  let y := if x < lo then lo else x
  if hi < y then hi else y

/-- `byte_reverse_32` (R192, R360, R371). -/
def byteReverse (d : Word) : Word :=
  d.extractLsb' 0 8 ++ d.extractLsb' 8 8 ++ d.extractLsb' 16 8 ++ d.extractLsb' 24 8

/-- `d[15:0] << 16 | d[31:16]` (R192, R360, R371). -/
def halfSwap (d : Word) : Word := d.extractLsb' 0 16 ++ d.extractLsb' 16 16

/-- `clz32` of a nonzero u32 (R11). -/
def clz32 (t : Nat) : Nat := 31 - Nat.log2 t

/-- `~t` on u32 (R296). -/
def not32 (t : Nat) : Nat := 0xFFFFFFFF - t

end Sys2Proof.Machine
end

