-- ==== Sys2Proof/Machine/Fields.lean ====
section
/-! DEFINITION. The default REGMAP: the index of every register the rules name (10_state R30) and the fields
of every control register the core reads (R40–R63). A field of more than one bit stands where the constants that RESET
took say (R19; DESIGN CHOICE: notes/assumptions/40.md). A field that is not here is stored only. -/

namespace Sys2Proof.Machine

open Sys2Proof

/-! ## Register indices (R30) -/

abbrev Reg.status : Nat := 0x00
abbrev Reg.fbzColorPath : Nat := 0x41
abbrev Reg.fogMode : Nat := 0x42
abbrev Reg.alphaMode : Nat := 0x43
abbrev Reg.fbzMode : Nat := 0x44
abbrev Reg.lfbMode : Nat := 0x45
abbrev Reg.clipLeftRight : Nat := 0x46
abbrev Reg.clipLowYHighY : Nat := 0x47
abbrev Reg.fogColor : Nat := 0x4B
abbrev Reg.zaColor : Nat := 0x4C
abbrev Reg.chromaKey : Nat := 0x4D
abbrev Reg.chromaRange : Nat := 0x4E
abbrev Reg.stipple : Nat := 0x50
abbrev Reg.color0 : Nat := 0x51
abbrev Reg.color1 : Nat := 0x52
abbrev Reg.fbiPixelsIn : Nat := 0x53
abbrev Reg.fbiChromaFail : Nat := 0x54
abbrev Reg.fbiZfuncFail : Nat := 0x55
abbrev Reg.fbiAfuncFail : Nat := 0x56
abbrev Reg.fbiPixelsOut : Nat := 0x57
abbrev Reg.fbiInit4 : Nat := 0x80
abbrev Reg.vRetrace : Nat := 0x81
abbrev Reg.fbiInit0 : Nat := 0x84
abbrev Reg.fbiInit1 : Nat := 0x85
abbrev Reg.fbiInit2 : Nat := 0x86
abbrev Reg.fbiInit3 : Nat := 0x87
abbrev Reg.hvRetrace : Nat := 0x90
abbrev Reg.fbiInit5 : Nat := 0x91
abbrev Reg.fbiInit6 : Nat := 0x92
abbrev Reg.fbiInit7 : Nat := 0x93
abbrev Reg.fbiSwapHistory : Nat := 0x96
abbrev Reg.fbiTrianglesOut : Nat := 0x97
abbrev Reg.sSetupMode : Nat := 0x98
abbrev Reg.sVx : Nat := 0x99
abbrev Reg.sVy : Nat := 0x9A
abbrev Reg.sRed : Nat := 0x9C
abbrev Reg.sGreen : Nat := 0x9D
abbrev Reg.sBlue : Nat := 0x9E
abbrev Reg.sAlpha : Nat := 0x9F
abbrev Reg.sVz : Nat := 0xA0
abbrev Reg.sWb : Nat := 0xA1
abbrev Reg.sWtmu0 : Nat := 0xA2
abbrev Reg.sS_W0 : Nat := 0xA3
abbrev Reg.sT_W0 : Nat := 0xA4
abbrev Reg.sWtmu1 : Nat := 0xA5
abbrev Reg.sS_Wtmu1 : Nat := 0xA6
abbrev Reg.sT_Wtmu1 : Nat := 0xA7
abbrev Reg.textureMode : Nat := 0xC0
abbrev Reg.tLOD : Nat := 0xC1
abbrev Reg.tDetail : Nat := 0xC2
abbrev Reg.texBaseAddr : Nat := 0xC3
abbrev Reg.nccTable0 : Nat := 0xC9
abbrev Reg.nccTable1 : Nat := 0xD5

/-! ## Fields of more than one bit -/

/-- The bits of a field. -/
def fieldBits (p : FieldPlace) : Nat := p.width + p.high.length

/-- The number in a field: its run of bits, and above it the bits that stand elsewhere. -/
def readField (p : FieldPlace) (v : Word) : Nat :=
  field v p.low p.width + p.high.foldr (fun j n => 2 * n + (if bit v j.val then 1 else 0)) 0 * 2 ^ p.width

/-! ## fbzColorPath (0x41), R40 -/

def ColorPath.rgbSelect (k : Constants) (v : Word) : Nat := readField k.fields.colorPath.rgbSelect v
def ColorPath.aSelect (k : Constants) (v : Word) : Nat := readField k.fields.colorPath.aSelect v
def ColorPath.localSelect (v : Word) : Bool := bit v 4
def ColorPath.alphaLocalSelect (k : Constants) (v : Word) : Nat := readField k.fields.colorPath.alphaLocalSelect v
def ColorPath.localSelectOverride (v : Word) : Bool := bit v 7
def ColorPath.zeroOther (v : Word) : Bool := bit v 8
def ColorPath.subLocal (v : Word) : Bool := bit v 9
def ColorPath.mselect (k : Constants) (v : Word) : Nat := readField k.fields.colorPath.mselect v
def ColorPath.reverseBlend (v : Word) : Bool := bit v 13
def ColorPath.addLocal (k : Constants) (v : Word) : Nat := readField k.fields.colorPath.addLocal v
def ColorPath.invertOutput (v : Word) : Bool := bit v 16
def ColorPath.alphaZeroOther (v : Word) : Bool := bit v 17
def ColorPath.alphaSubLocal (v : Word) : Bool := bit v 18
def ColorPath.alphaMselect (k : Constants) (v : Word) : Nat := readField k.fields.colorPath.alphaMselect v
def ColorPath.alphaReverseBlend (v : Word) : Bool := bit v 22
def ColorPath.alphaAddLocal (k : Constants) (v : Word) : Nat := readField k.fields.colorPath.alphaAddLocal v
def ColorPath.alphaInvertOutput (v : Word) : Bool := bit v 25
def ColorPath.subpixelAdjust (v : Word) : Bool := bit v 26
def ColorPath.textureEnable (v : Word) : Bool := bit v 27
def ColorPath.rgbzwClamp (v : Word) : Bool := bit v 28

/-! ## fogMode (0x42), R41 -/

def FogMode.enable (v : Word) : Bool := bit v 0
def FogMode.add (v : Word) : Bool := bit v 1
def FogMode.mult (v : Word) : Bool := bit v 2
def FogMode.zalpha (k : Constants) (v : Word) : Nat := readField k.fields.fogMode.zalpha v
def FogMode.constant (v : Word) : Bool := bit v 5
def FogMode.dither (v : Word) : Bool := bit v 6
def FogMode.zones (v : Word) : Bool := bit v 7

/-! ## alphaMode (0x43), R42 -/

def AlphaMode.test (v : Word) : Bool := bit v 0
def AlphaMode.function (k : Constants) (v : Word) : Nat := readField k.fields.alphaMode.function v
def AlphaMode.blend (v : Word) : Bool := bit v 4
def AlphaMode.srcRgb (k : Constants) (v : Word) : Nat := readField k.fields.alphaMode.srcRgb v
def AlphaMode.dstRgb (k : Constants) (v : Word) : Nat := readField k.fields.alphaMode.dstRgb v
def AlphaMode.srcAlpha (k : Constants) (v : Word) : Nat := readField k.fields.alphaMode.srcAlpha v
def AlphaMode.dstAlpha (k : Constants) (v : Word) : Nat := readField k.fields.alphaMode.dstAlpha v
def AlphaMode.ref (k : Constants) (v : Word) : Nat := readField k.fields.alphaMode.ref v

/-! ## fbzMode (0x44), R43 -/

def FbzMode.enableClipping (v : Word) : Bool := bit v 0
def FbzMode.enableChromakey (v : Word) : Bool := bit v 1
def FbzMode.enableStipple (v : Word) : Bool := bit v 2
def FbzMode.wbufferSelect (v : Word) : Bool := bit v 3
def FbzMode.enableDepthbuf (v : Word) : Bool := bit v 4
def FbzMode.depthFunction (k : Constants) (v : Word) : Nat := readField k.fields.fbzMode.depthFunction v
def FbzMode.enableDithering (v : Word) : Bool := bit v 8
def FbzMode.rgbBufferMask (v : Word) : Bool := bit v 9
def FbzMode.auxBufferMask (v : Word) : Bool := bit v 10
def FbzMode.ditherType (v : Word) : Bool := bit v 11
def FbzMode.stipplePattern (v : Word) : Bool := bit v 12
def FbzMode.enableAlphaMask (v : Word) : Bool := bit v 13
def FbzMode.drawBuffer (k : Constants) (v : Word) : Nat := readField k.fields.fbzMode.drawBuffer v
def FbzMode.enableDepthBias (v : Word) : Bool := bit v 16
def FbzMode.yOrigin (v : Word) : Bool := bit v 17
def FbzMode.enableAlphaPlanes (v : Word) : Bool := bit v 18
def FbzMode.alphaDitherSubtract (v : Word) : Bool := bit v 19
def FbzMode.depthSourceCompare (v : Word) : Bool := bit v 20
def FbzMode.depthFloatSelect (v : Word) : Bool := bit v 21

/-! ## lfbMode (0x45), R45 -/

def LfbMode.writeFormat (k : Constants) (v : Word) : Nat := readField k.fields.lfbMode.writeFormat v
def LfbMode.writeBuffer (k : Constants) (v : Word) : Nat := readField k.fields.lfbMode.writeBuffer v
def LfbMode.readBuffer (k : Constants) (v : Word) : Nat := readField k.fields.lfbMode.readBuffer v
def LfbMode.enablePipeline (v : Word) : Bool := bit v 8
def LfbMode.lanes (k : Constants) (v : Word) : Nat := readField k.fields.lfbMode.lanes v
def LfbMode.wordSwapWrites (v : Word) : Bool := bit v 11
def LfbMode.byteSwizzleWrites (v : Word) : Bool := bit v 12
def LfbMode.yOrigin (v : Word) : Bool := bit v 13
def LfbMode.wordSwapReads (v : Word) : Bool := bit v 15
def LfbMode.byteSwizzleReads (v : Word) : Bool := bit v 16

/-! ## clipLeftRight (0x46), R46 -/

def ClipX.left (k : Constants) (v : Word) : Nat := readField k.fields.clipX.left v
def ClipX.right (k : Constants) (v : Word) : Nat := readField k.fields.clipX.right v

/-! ## clipLowYHighY (0x47), R46 -/

def ClipY.lowY (k : Constants) (v : Word) : Nat := readField k.fields.clipY.lowY v
def ClipY.highY (k : Constants) (v : Word) : Nat := readField k.fields.clipY.highY v

/-! ## zaColor (0x4C), R47 -/

def ZaColor.depth (k : Constants) (v : Word) : Nat := readField k.fields.zaColor.depth v
def ZaColor.alpha (k : Constants) (v : Word) : Nat := readField k.fields.zaColor.alpha v

/-! ## chromaRange (0x4E), R48 -/

def ChromaRange.blueExclusive (v : Word) : Bool := bit v 24
def ChromaRange.greenExclusive (v : Word) : Bool := bit v 25
def ChromaRange.redExclusive (v : Word) : Bool := bit v 26
def ChromaRange.union (v : Word) : Bool := bit v 27
def ChromaRange.enable (v : Word) : Bool := bit v 28

/-! ## textureMode (0xC0), R50 -/

def TexMode.perspective (v : Word) : Bool := bit v 0
def TexMode.minFilter (v : Word) : Bool := bit v 1
def TexMode.magFilter (v : Word) : Bool := bit v 2
def TexMode.clampNegW (v : Word) : Bool := bit v 3
def TexMode.lodDither (v : Word) : Bool := bit v 4
def TexMode.nccSelect (v : Word) : Bool := bit v 5
def TexMode.clampS (v : Word) : Bool := bit v 6
def TexMode.clampT (v : Word) : Bool := bit v 7
def TexMode.format (k : Constants) (v : Word) : Nat := readField k.fields.texMode.format v
def TexMode.zeroOther (v : Word) : Bool := bit v 12
def TexMode.subLocal (v : Word) : Bool := bit v 13
def TexMode.mselect (k : Constants) (v : Word) : Nat := readField k.fields.texMode.mselect v
def TexMode.reverseBlend (v : Word) : Bool := bit v 17
def TexMode.addLocal (k : Constants) (v : Word) : Nat := readField k.fields.texMode.addLocal v
def TexMode.invertOutput (v : Word) : Bool := bit v 20
def TexMode.alphaZeroOther (v : Word) : Bool := bit v 21
def TexMode.alphaSubLocal (v : Word) : Bool := bit v 22
def TexMode.alphaMselect (k : Constants) (v : Word) : Nat := readField k.fields.texMode.alphaMselect v
def TexMode.alphaReverseBlend (v : Word) : Bool := bit v 26
def TexMode.alphaAddLocal (k : Constants) (v : Word) : Nat := readField k.fields.texMode.alphaAddLocal v
def TexMode.alphaInvertOutput (v : Word) : Bool := bit v 29

/-! ## tLOD (0xC1), R51 -/

def TLod.lodmin (k : Constants) (v : Word) : Nat := readField k.fields.tLod.lodmin v
def TLod.lodmax (k : Constants) (v : Word) : Nat := readField k.fields.tLod.lodmax v
def TLod.lodbias (k : Constants) (v : Word) : Nat := readField k.fields.tLod.lodbias v
def TLod.odd (v : Word) : Bool := bit v 18
def TLod.tsplit (v : Word) : Bool := bit v 19
def TLod.sIsWider (v : Word) : Bool := bit v 20
def TLod.aspect (k : Constants) (v : Word) : Nat := readField k.fields.tLod.aspect v
def TLod.dataSwizzle (v : Word) : Bool := bit v 25
def TLod.dataSwap (v : Word) : Bool := bit v 26
def TLod.directWrite (v : Word) : Bool := bit v 27

/-! ## tDetail (0xC2), R52 -/

def TDetail.max (k : Constants) (v : Word) : Nat := readField k.fields.tDetail.max v
def TDetail.bias (k : Constants) (v : Word) : Nat := readField k.fields.tDetail.bias v
def TDetail.scale (k : Constants) (v : Word) : Nat := readField k.fields.tDetail.scale v

/-! ## sSetupMode (0x98), R55 -/

def SetupMode.rgb (v : Word) : Bool := bit v 0
def SetupMode.alpha (v : Word) : Bool := bit v 1
def SetupMode.z (v : Word) : Bool := bit v 2
def SetupMode.wb (v : Word) : Bool := bit v 3
def SetupMode.w0 (v : Word) : Bool := bit v 4
def SetupMode.st0 (v : Word) : Bool := bit v 5
def SetupMode.w1 (v : Word) : Bool := bit v 6
def SetupMode.st1 (v : Word) : Bool := bit v 7
def SetupMode.fan (v : Word) : Bool := bit v 16
def SetupMode.cull (v : Word) : Bool := bit v 17
def SetupMode.cullSign (v : Word) : Bool := bit v 18
def SetupMode.noPingPong (v : Word) : Bool := bit v 19

/-! ## fbiInit0 (0x84), R56 -/

def FbiInit0.graphicsReset (v : Word) : Bool := bit v 1
def FbiInit0.enableMemoryFifo (v : Word) : Bool := bit v 13

/-! ## fbiInit1 (0x85), R57 -/

def FbiInit1.xVideoTiles (k : Constants) (v : Word) : Nat := readField k.fields.fbiInit1.xVideoTiles v
def FbiInit1.xVideoTilesBit5 (k : Constants) (v : Word) : Nat := readField k.fields.fbiInit1.xVideoTilesBit5 v

/-! ## fbiInit2 (0x86), R58 -/

def FbiInit2.enableTripleBuf (k : Constants) (v : Word) : Nat := readField k.fields.fbiInit2.enableTripleBuf v
def FbiInit2.videoBufferOffset (k : Constants) (v : Word) : Nat := readField k.fields.fbiInit2.videoBufferOffset v

/-! ## fbiInit3 (0x87), R59 -/

def FbiInit3.triRegisterRemap (v : Word) : Bool := bit v 0
def FbiInit3.disableTmus (v : Word) : Bool := bit v 6
def FbiInit3.yoriginSubtract (k : Constants) (v : Word) : Nat := readField k.fields.fbiInit3.yoriginSubtract v

/-! ## fbiInit4 (0x80), R60 -/

def FbiInit4.fifoStartRow (k : Constants) (v : Word) : Nat := readField k.fields.fbiInit4.fifoStartRow v
def FbiInit4.fifoStopRow (k : Constants) (v : Word) : Nat := readField k.fields.fbiInit4.fifoStopRow v

/-! ## fbiInit5 (0x91), R61 -/

def FbiInit5.bufferAllocation (k : Constants) (v : Word) : Nat := readField k.fields.fbiInit5.bufferAllocation v

/-! ## fbiInit6 (0x92), R61 -/

def FbiInit6.xVideoTilesBit0 (k : Constants) (v : Word) : Nat := readField k.fields.fbiInit6.xVideoTilesBit0 v

/-! ## dacData (0x8B), R63 -/

def DacData.data (k : Constants) (v : Word) : Nat := readField k.fields.dacData.data v
def DacData.index (k : Constants) (v : Word) : Nat := readField k.fields.dacData.index v
def DacData.read (v : Word) : Bool := bit v 11

/-! ## nopCMD (0x48), R63 -/

def NopCmd.clearStats (v : Word) : Bool := bit v 0
def NopCmd.clearTriangles (v : Word) : Bool := bit v 1

/-! ## a packed ARGB word (as_rgba, R12) -/

def Argb.alpha (v : Word) : Nat := field v 24 8
def Argb.red (v : Word) : Nat := field v 16 8
def Argb.green (v : Word) : Nat := field v 8 8
def Argb.blue (v : Word) : Nat := field v 0 8

end Sys2Proof.Machine
end

