-- ==== Sys2Proof/Syntax.lean ====
section
/-! DEFINITION. The bus operations (30_encoding R100) as the host issues them, and the instructions: one
constructor per row of spec/opcode_table.json, the bus operations first, then the register writes in index
order, then the computed register reads. -/

namespace Sys2Proof

open Sys2Proof.Machine

/-- A bus operation as the host issues it (R100): each is a call of its own with these operands, so the
kind is a constructor, not a bit of the offset. -/
inductive BusCycle where
  | regWr (offset value : Word)
  /-- A `regWr` to an index where R30 has no register and the `ACCESS` that RESET supplied gives the right W
  (R31). The step makes it; the host issues a `regWr`. -/
  | grantedWr (offset value : Word)
  | regRd (offset : Word)
  | lfbWr (offset value : Word) (mask : BitVec 4)
  | lfbRd (offset : Word)
  | texWr (offset value : Word)
  | pciIniten (value : Word)
  | reset (config : Config) (policy : ResetPolicy)
deriving DecidableEq, Repr

/-- The instructions. A register write carries its chip-select (R102) and its data word; its index is its
constructor. `regWr` and `regRd` are the operations whose register the offset alone does not name: an
offset that can be aliased (R103), a write to a reserved index to which ACCESS gives W (R31), or a read of a
register that is not computed. The other writes to a reserved index are dropped whatever their operands
(R132), and a computed read ignores its chip-select (R102), so these carry none. -/
inductive Instr where
  | regWr (offset value : Word)
  | regRd (offset : Word)
  | lfbWr (offset value : Word) (mask : BitVec 4)
  | lfbRd (offset : Word)
  | texWr (offset value : Word)
  | pciIniten (value : Word)
  | reset (config : Config) (policy : ResetPolicy)
  | status (chips : BitVec 4) (value : Word)
  | intrCtrl (chips : BitVec 4) (value : Word)
  | vertexAx (chips : BitVec 4) (value : Word)
  | vertexAy (chips : BitVec 4) (value : Word)
  | vertexBx (chips : BitVec 4) (value : Word)
  | vertexBy (chips : BitVec 4) (value : Word)
  | vertexCx (chips : BitVec 4) (value : Word)
  | vertexCy (chips : BitVec 4) (value : Word)
  | startR (chips : BitVec 4) (value : Word)
  | startG (chips : BitVec 4) (value : Word)
  | startB (chips : BitVec 4) (value : Word)
  | startZ (chips : BitVec 4) (value : Word)
  | startA (chips : BitVec 4) (value : Word)
  | startS (chips : BitVec 4) (value : Word)
  | startT (chips : BitVec 4) (value : Word)
  | startW (chips : BitVec 4) (value : Word)
  | dRdX (chips : BitVec 4) (value : Word)
  | dGdX (chips : BitVec 4) (value : Word)
  | dBdX (chips : BitVec 4) (value : Word)
  | dZdX (chips : BitVec 4) (value : Word)
  | dAdX (chips : BitVec 4) (value : Word)
  | dSdX (chips : BitVec 4) (value : Word)
  | dTdX (chips : BitVec 4) (value : Word)
  | dWdX (chips : BitVec 4) (value : Word)
  | dRdY (chips : BitVec 4) (value : Word)
  | dGdY (chips : BitVec 4) (value : Word)
  | dBdY (chips : BitVec 4) (value : Word)
  | dZdY (chips : BitVec 4) (value : Word)
  | dAdY (chips : BitVec 4) (value : Word)
  | dSdY (chips : BitVec 4) (value : Word)
  | dTdY (chips : BitVec 4) (value : Word)
  | dWdY (chips : BitVec 4) (value : Word)
  | triangleCMD (chips : BitVec 4) (value : Word)
  | fvertexAx (chips : BitVec 4) (value : Word)
  | fvertexAy (chips : BitVec 4) (value : Word)
  | fvertexBx (chips : BitVec 4) (value : Word)
  | fvertexBy (chips : BitVec 4) (value : Word)
  | fvertexCx (chips : BitVec 4) (value : Word)
  | fvertexCy (chips : BitVec 4) (value : Word)
  | fstartR (chips : BitVec 4) (value : Word)
  | fstartG (chips : BitVec 4) (value : Word)
  | fstartB (chips : BitVec 4) (value : Word)
  | fstartZ (chips : BitVec 4) (value : Word)
  | fstartA (chips : BitVec 4) (value : Word)
  | fstartS (chips : BitVec 4) (value : Word)
  | fstartT (chips : BitVec 4) (value : Word)
  | fstartW (chips : BitVec 4) (value : Word)
  | fdRdX (chips : BitVec 4) (value : Word)
  | fdGdX (chips : BitVec 4) (value : Word)
  | fdBdX (chips : BitVec 4) (value : Word)
  | fdZdX (chips : BitVec 4) (value : Word)
  | fdAdX (chips : BitVec 4) (value : Word)
  | fdSdX (chips : BitVec 4) (value : Word)
  | fdTdX (chips : BitVec 4) (value : Word)
  | fdWdX (chips : BitVec 4) (value : Word)
  | fdRdY (chips : BitVec 4) (value : Word)
  | fdGdY (chips : BitVec 4) (value : Word)
  | fdBdY (chips : BitVec 4) (value : Word)
  | fdZdY (chips : BitVec 4) (value : Word)
  | fdAdY (chips : BitVec 4) (value : Word)
  | fdSdY (chips : BitVec 4) (value : Word)
  | fdTdY (chips : BitVec 4) (value : Word)
  | fdWdY (chips : BitVec 4) (value : Word)
  | ftriangleCMD (chips : BitVec 4) (value : Word)
  | fbzColorPath (chips : BitVec 4) (value : Word)
  | fogMode (chips : BitVec 4) (value : Word)
  | alphaMode (chips : BitVec 4) (value : Word)
  | fbzMode (chips : BitVec 4) (value : Word)
  | lfbMode (chips : BitVec 4) (value : Word)
  | clipLeftRight (chips : BitVec 4) (value : Word)
  | clipLowYHighY (chips : BitVec 4) (value : Word)
  | nopCMD (chips : BitVec 4) (value : Word)
  | fastfillCMD (chips : BitVec 4) (value : Word)
  | swapbufferCMD (chips : BitVec 4) (value : Word)
  | fogColor (chips : BitVec 4) (value : Word)
  | zaColor (chips : BitVec 4) (value : Word)
  | chromaKey (chips : BitVec 4) (value : Word)
  | chromaRange (chips : BitVec 4) (value : Word)
  | userIntrCMD (chips : BitVec 4) (value : Word)
  | stipple (chips : BitVec 4) (value : Word)
  | color0 (chips : BitVec 4) (value : Word)
  | color1 (chips : BitVec 4) (value : Word)
  | fbiPixelsIn (chips : BitVec 4) (value : Word)
  | fbiChromaFail (chips : BitVec 4) (value : Word)
  | fbiZfuncFail (chips : BitVec 4) (value : Word)
  | fbiAfuncFail (chips : BitVec 4) (value : Word)
  | fbiPixelsOut (chips : BitVec 4) (value : Word)
  | fogTable0 (chips : BitVec 4) (value : Word)
  | fogTable1 (chips : BitVec 4) (value : Word)
  | fogTable2 (chips : BitVec 4) (value : Word)
  | fogTable3 (chips : BitVec 4) (value : Word)
  | fogTable4 (chips : BitVec 4) (value : Word)
  | fogTable5 (chips : BitVec 4) (value : Word)
  | fogTable6 (chips : BitVec 4) (value : Word)
  | fogTable7 (chips : BitVec 4) (value : Word)
  | fogTable8 (chips : BitVec 4) (value : Word)
  | fogTable9 (chips : BitVec 4) (value : Word)
  | fogTable10 (chips : BitVec 4) (value : Word)
  | fogTable11 (chips : BitVec 4) (value : Word)
  | fogTable12 (chips : BitVec 4) (value : Word)
  | fogTable13 (chips : BitVec 4) (value : Word)
  | fogTable14 (chips : BitVec 4) (value : Word)
  | fogTable15 (chips : BitVec 4) (value : Word)
  | fogTable16 (chips : BitVec 4) (value : Word)
  | fogTable17 (chips : BitVec 4) (value : Word)
  | fogTable18 (chips : BitVec 4) (value : Word)
  | fogTable19 (chips : BitVec 4) (value : Word)
  | fogTable20 (chips : BitVec 4) (value : Word)
  | fogTable21 (chips : BitVec 4) (value : Word)
  | fogTable22 (chips : BitVec 4) (value : Word)
  | fogTable23 (chips : BitVec 4) (value : Word)
  | fogTable24 (chips : BitVec 4) (value : Word)
  | fogTable25 (chips : BitVec 4) (value : Word)
  | fogTable26 (chips : BitVec 4) (value : Word)
  | fogTable27 (chips : BitVec 4) (value : Word)
  | fogTable28 (chips : BitVec 4) (value : Word)
  | fogTable29 (chips : BitVec 4) (value : Word)
  | fogTable30 (chips : BitVec 4) (value : Word)
  | fogTable31 (chips : BitVec 4) (value : Word)
  | cmdFifo78 (chips : BitVec 4) (value : Word)
  | cmdFifo79 (chips : BitVec 4) (value : Word)
  | cmdFifo7A (chips : BitVec 4) (value : Word)
  | cmdFifo7B (chips : BitVec 4) (value : Word)
  | cmdFifo7C (chips : BitVec 4) (value : Word)
  | cmdFifo7D (chips : BitVec 4) (value : Word)
  | cmdFifo7E (chips : BitVec 4) (value : Word)
  | cmdFifo7F (chips : BitVec 4) (value : Word)
  | fbiInit4 (chips : BitVec 4) (value : Word)
  | vRetrace (chips : BitVec 4) (value : Word)
  | backPorch (chips : BitVec 4) (value : Word)
  | videoDimensions (chips : BitVec 4) (value : Word)
  | fbiInit0 (chips : BitVec 4) (value : Word)
  | fbiInit1 (chips : BitVec 4) (value : Word)
  | fbiInit2 (chips : BitVec 4) (value : Word)
  | fbiInit3 (chips : BitVec 4) (value : Word)
  | hSync (chips : BitVec 4) (value : Word)
  | vSync (chips : BitVec 4) (value : Word)
  | clutData (chips : BitVec 4) (value : Word)
  | dacData (chips : BitVec 4) (value : Word)
  | maxRgbDelta (chips : BitVec 4) (value : Word)
  | hBorder (chips : BitVec 4) (value : Word)
  | vBorder (chips : BitVec 4) (value : Word)
  | borderColor (chips : BitVec 4) (value : Word)
  | hvRetrace (chips : BitVec 4) (value : Word)
  | fbiInit5 (chips : BitVec 4) (value : Word)
  | fbiInit6 (chips : BitVec 4) (value : Word)
  | fbiInit7 (chips : BitVec 4) (value : Word)
  | fbiSwapHistory (chips : BitVec 4) (value : Word)
  | fbiTrianglesOut (chips : BitVec 4) (value : Word)
  | sSetupMode (chips : BitVec 4) (value : Word)
  | sVx (chips : BitVec 4) (value : Word)
  | sVy (chips : BitVec 4) (value : Word)
  | sARGB (chips : BitVec 4) (value : Word)
  | sRed (chips : BitVec 4) (value : Word)
  | sGreen (chips : BitVec 4) (value : Word)
  | sBlue (chips : BitVec 4) (value : Word)
  | sAlpha (chips : BitVec 4) (value : Word)
  | sVz (chips : BitVec 4) (value : Word)
  | sWb (chips : BitVec 4) (value : Word)
  | sWtmu0 (chips : BitVec 4) (value : Word)
  | sS_W0 (chips : BitVec 4) (value : Word)
  | sT_W0 (chips : BitVec 4) (value : Word)
  | sWtmu1 (chips : BitVec 4) (value : Word)
  | sS_Wtmu1 (chips : BitVec 4) (value : Word)
  | sT_Wtmu1 (chips : BitVec 4) (value : Word)
  | sDrawTriCMD (chips : BitVec 4) (value : Word)
  | sBeginTriCMD (chips : BitVec 4) (value : Word)
  | v2xAA (chips : BitVec 4) (value : Word)
  | v2xAB (chips : BitVec 4) (value : Word)
  | v2xAC (chips : BitVec 4) (value : Word)
  | v2xAD (chips : BitVec 4) (value : Word)
  | v2xAE (chips : BitVec 4) (value : Word)
  | v2xAF (chips : BitVec 4) (value : Word)
  | v2xB0 (chips : BitVec 4) (value : Word)
  | v2xB1 (chips : BitVec 4) (value : Word)
  | v2xB2 (chips : BitVec 4) (value : Word)
  | v2xB3 (chips : BitVec 4) (value : Word)
  | v2xB4 (chips : BitVec 4) (value : Word)
  | v2xB5 (chips : BitVec 4) (value : Word)
  | v2xB6 (chips : BitVec 4) (value : Word)
  | v2xB7 (chips : BitVec 4) (value : Word)
  | v2xB8 (chips : BitVec 4) (value : Word)
  | v2xB9 (chips : BitVec 4) (value : Word)
  | v2xBA (chips : BitVec 4) (value : Word)
  | v2xBB (chips : BitVec 4) (value : Word)
  | v2xBC (chips : BitVec 4) (value : Word)
  | v2xBD (chips : BitVec 4) (value : Word)
  | v2xBE (chips : BitVec 4) (value : Word)
  | v2xBF (chips : BitVec 4) (value : Word)
  | textureMode (chips : BitVec 4) (value : Word)
  | tLOD (chips : BitVec 4) (value : Word)
  | tDetail (chips : BitVec 4) (value : Word)
  | texBaseAddr (chips : BitVec 4) (value : Word)
  | texBaseAddr_1 (chips : BitVec 4) (value : Word)
  | texBaseAddr_2 (chips : BitVec 4) (value : Word)
  | texBaseAddr_3_8 (chips : BitVec 4) (value : Word)
  | trexInit0 (chips : BitVec 4) (value : Word)
  | trexInit1 (chips : BitVec 4) (value : Word)
  | ncc0Entry0 (chips : BitVec 4) (value : Word)
  | ncc0Entry1 (chips : BitVec 4) (value : Word)
  | ncc0Entry2 (chips : BitVec 4) (value : Word)
  | ncc0Entry3 (chips : BitVec 4) (value : Word)
  | ncc0Entry4 (chips : BitVec 4) (value : Word)
  | ncc0Entry5 (chips : BitVec 4) (value : Word)
  | ncc0Entry6 (chips : BitVec 4) (value : Word)
  | ncc0Entry7 (chips : BitVec 4) (value : Word)
  | ncc0Entry8 (chips : BitVec 4) (value : Word)
  | ncc0Entry9 (chips : BitVec 4) (value : Word)
  | ncc0Entry10 (chips : BitVec 4) (value : Word)
  | ncc0Entry11 (chips : BitVec 4) (value : Word)
  | ncc1Entry0 (chips : BitVec 4) (value : Word)
  | ncc1Entry1 (chips : BitVec 4) (value : Word)
  | ncc1Entry2 (chips : BitVec 4) (value : Word)
  | ncc1Entry3 (chips : BitVec 4) (value : Word)
  | ncc1Entry4 (chips : BitVec 4) (value : Word)
  | ncc1Entry5 (chips : BitVec 4) (value : Word)
  | ncc1Entry6 (chips : BitVec 4) (value : Word)
  | ncc1Entry7 (chips : BitVec 4) (value : Word)
  | ncc1Entry8 (chips : BitVec 4) (value : Word)
  | ncc1Entry9 (chips : BitVec 4) (value : Word)
  | ncc1Entry10 (chips : BitVec 4) (value : Word)
  | ncc1Entry11 (chips : BitVec 4) (value : Word)
  | reserved21
  | reserved94
  | reserved95
  | reservedE1
  | reservedE2
  | reservedE3
  | reservedE4
  | reservedE5
  | reservedE6
  | reservedE7
  | reservedE8
  | reservedE9
  | reservedEA
  | reservedEB
  | reservedEC
  | reservedED
  | reservedEE
  | reservedEF
  | reservedF0
  | reservedF1
  | reservedF2
  | reservedF3
  | reservedF4
  | reservedF5
  | reservedF6
  | reservedF7
  | reservedF8
  | reservedF9
  | reservedFA
  | reservedFB
  | reservedFC
  | reservedFD
  | reservedFE
  | reservedFF
  | statusRead
  | fbiInit2Read
  | fbiPixelsInRead
  | fbiChromaFailRead
  | fbiZfuncFailRead
  | fbiAfuncFailRead
  | fbiPixelsOutRead
  | vRetraceRead
  | hvRetraceRead
  | fbiSwapHistoryRead
  | fbiTrianglesOutRead
deriving DecidableEq, Repr

end Sys2Proof
end

