-- ==== Sys2Proof/WellFormed.lean ====
section
/-! DEFINITION. The checks on an instruction's operands. Chip-selects, offsets, data words and byte masks
take every value of their width; what is checked is that a generic register operation is one that no
constructor of its own stands for, and that a RESET's plain data are in range and canonical. -/

namespace Sys2Proof

open Sys2Proof.Machine

/-- The offset may carry an alias select (R103): its index is below 64 and a bit outside the index and
chip-select fields (R101) is set. -/
def aliasable (offset : Word) : Bool := decide (field offset 0 8 < 64) && decide (field offset 12 20 ≠ 0)

/-- The indices whose read the opcode table lists as computed (R62, R140, R160, R236, R387, R446). -/
def computedReads : List Nat := [0x00, 0x53, 0x54, 0x55, 0x56, 0x57, 0x81, 0x86, 0x90, 0x96, 0x97]

/-- No register stands at this index in R30. -/
def reservedIndex (index : Nat) : Bool :=
  decide (index = 0x21) || decide (index = 0x94) || decide (index = 0x95) || decide (0xE1 ≤ index)

/-- The codes of a field that lies inside its register: each of its codes stands once. -/
def FieldCodes.wf (c : FieldCodes) : Bool :=
  decide (c.low.val + c.width.val ≤ 32) && decide (c.codes.length = 2 ^ c.width.val) && decide c.codes.Nodup &&
    c.codes.all fun k => decide (k < 2 ^ c.width.val)

/-- Two coded fields of one register lie apart. -/
def FieldCodes.apart (a b : FieldCodes) : Bool :=
  decide (a.register ≠ b.register) || decide (a.low.val + a.width.val ≤ b.low.val) ||
    decide (b.low.val + b.width.val ≤ a.low.val)

/-- A supplied register map moves every register, every bit of a register and every code of a field to one place,
and says which banks each of the 16 chip-selects names. -/
def RegMap.wf (m : RegMap) : Bool :=
  decide (m.chips.length = 16) && m.codes.all FieldCodes.wf &&
    decide (m.codes.Pairwise fun a b => FieldCodes.apart a b = true) &&
    (m.fields.all fun f => decide (f.2.length = 32) && decide f.2.Nodup) && decide (m.fields.map Prod.fst).Nodup &&
    decide (m.index.length = 256) && decide m.index.Nodup

/-- A supplied table is canonical and has `n` entries; no table is fine. -/
def tableWf {w : Nat} (n : Nat) : Option (Memory w) → Bool
  | none => true
  | some t => t.wf && t.below n

/-- The plain parameters are in range: a statistics width of at most 32 bits, a register map that is a
permutation, canonical tables of 256 indices (`ACCESS`) and 64 indices (`ALIAS_MAP`). -/
def Config.wf (c : Config) : Bool :=
  decide (c.statBits ≤ 32) && (c.regMap.all RegMap.wf) && tableWf 256 c.access && tableWf 64 c.aliasMap

/-- One unit's supplied values are canonical and inside its memories. -/
def UnitValues.wf (c : Config) (v : UnitValues) : Bool :=
  v.ram.wf && v.ram.below c.tmumemBytes && v.palette.wf && v.palette.below 256 && v.palettea.wf &&
    v.palettea.below 256

/-- The supplied reset values are canonical and inside the machine's memories. -/
def ResetValues.wf (c : Config) (v : ResetValues) : Bool :=
  v.regs.wf && v.regs.below 1024 && v.dacReg.wf && v.dacReg.below 8 && v.fbRam.wf &&
    v.fbRam.below c.fbmemBytes && v.fogblend.wf && v.fogblend.below 64 && v.fogdelta.wf &&
    v.fogdelta.below 64 && UnitValues.wf c v.tmu0 && UnitValues.wf c v.tmu1

/-- `RESET_POLICY` with its arguments (R421). -/
def ResetPolicy.wf (c : Config) : ResetPolicy → Bool
  | .reference => true
  | .arbitrary v => v.wf c

/-- The well-formed instructions. Every operand that is not named here is a full-range bit field. -/
def Instr.wf : Instr → Bool
  | .regWr offset _ => aliasable offset || reservedIndex (field offset 0 8)
  | .regRd offset => aliasable offset || !(computedReads.contains (field offset 0 8))
  | .reset config policy => config.wf && policy.wf config
  | _ => true

end Sys2Proof
end

