-- ==== Sys2Proof/Decode.lean ====
section
/-! DEFINITION. From a bus operation to an instruction (30_encoding R100–R105, R108), total and rejecting by
name, and back. A register operation's index is offset bits 7:0 and its chip-select bits 11:8; the other
offset bits are ignored, but for an alias select, which only indices below 64 can have (R101, R103). -/

namespace Sys2Proof

open Sys2Proof.Machine

/-- Why a bus operation is rejected. No register, framebuffer or texture operation is (R109). -/
inductive DecodeError where
  /-- A RESET whose configuration is out of range. -/
  | badResetConfig
  /-- A RESET whose supplied values are not canonical or lie outside the machine's memories. -/
  | badResetValues
  /-- A word wider than a register write's offset and data. -/
  | tooWide
deriving DecidableEq, Repr

/-! The opcode table's REG_WR rows in index order: position = index (R30, R108). -/

/-- Indices 0x00 to 0x1F. -/
def writeRows0 : List (BitVec 4 → Word → Instr) :=
  [.status, .intrCtrl, .vertexAx, .vertexAy, .vertexBx, .vertexBy, .vertexCx, .vertexCy, .startR, .startG,
   .startB, .startZ, .startA, .startS, .startT, .startW, .dRdX, .dGdX, .dBdX, .dZdX, .dAdX, .dSdX, .dTdX,
   .dWdX, .dRdY, .dGdY, .dBdY, .dZdY, .dAdY, .dSdY, .dTdY, .dWdY]

/-- Indices 0x20 to 0x3F. -/
def writeRows1 : List (BitVec 4 → Word → Instr) :=
  [.triangleCMD, fun _ _ => .reserved21, .fvertexAx, .fvertexAy, .fvertexBx, .fvertexBy, .fvertexCx, .fvertexCy,
   .fstartR, .fstartG, .fstartB, .fstartZ, .fstartA, .fstartS, .fstartT, .fstartW, .fdRdX, .fdGdX, .fdBdX,
   .fdZdX, .fdAdX, .fdSdX, .fdTdX, .fdWdX, .fdRdY, .fdGdY, .fdBdY, .fdZdY, .fdAdY, .fdSdY, .fdTdY, .fdWdY]

/-- Indices 0x40 to 0x5F. -/
def writeRows2 : List (BitVec 4 → Word → Instr) :=
  [.ftriangleCMD, .fbzColorPath, .fogMode, .alphaMode, .fbzMode, .lfbMode, .clipLeftRight, .clipLowYHighY,
   .nopCMD, .fastfillCMD, .swapbufferCMD, .fogColor, .zaColor, .chromaKey, .chromaRange, .userIntrCMD,
   .stipple, .color0, .color1, .fbiPixelsIn, .fbiChromaFail, .fbiZfuncFail, .fbiAfuncFail, .fbiPixelsOut,
   .fogTable0, .fogTable1, .fogTable2, .fogTable3, .fogTable4, .fogTable5, .fogTable6, .fogTable7]

/-- Indices 0x60 to 0x7F. -/
def writeRows3 : List (BitVec 4 → Word → Instr) :=
  [.fogTable8, .fogTable9, .fogTable10, .fogTable11, .fogTable12, .fogTable13, .fogTable14, .fogTable15,
   .fogTable16, .fogTable17, .fogTable18, .fogTable19, .fogTable20, .fogTable21, .fogTable22, .fogTable23,
   .fogTable24, .fogTable25, .fogTable26, .fogTable27, .fogTable28, .fogTable29, .fogTable30, .fogTable31,
   .cmdFifo78, .cmdFifo79, .cmdFifo7A, .cmdFifo7B, .cmdFifo7C, .cmdFifo7D, .cmdFifo7E, .cmdFifo7F]

/-- Indices 0x80 to 0x9F. -/
def writeRows4 : List (BitVec 4 → Word → Instr) :=
  [.fbiInit4, .vRetrace, .backPorch, .videoDimensions, .fbiInit0, .fbiInit1, .fbiInit2, .fbiInit3, .hSync,
   .vSync, .clutData, .dacData, .maxRgbDelta, .hBorder, .vBorder, .borderColor, .hvRetrace, .fbiInit5,
   .fbiInit6, .fbiInit7, fun _ _ => .reserved94, fun _ _ => .reserved95, .fbiSwapHistory, .fbiTrianglesOut, .sSetupMode, .sVx,
   .sVy, .sARGB, .sRed, .sGreen, .sBlue, .sAlpha]

/-- Indices 0xA0 to 0xBF. -/
def writeRows5 : List (BitVec 4 → Word → Instr) :=
  [.sVz, .sWb, .sWtmu0, .sS_W0, .sT_W0, .sWtmu1, .sS_Wtmu1, .sT_Wtmu1, .sDrawTriCMD, .sBeginTriCMD, .v2xAA,
   .v2xAB, .v2xAC, .v2xAD, .v2xAE, .v2xAF, .v2xB0, .v2xB1, .v2xB2, .v2xB3, .v2xB4, .v2xB5, .v2xB6, .v2xB7,
   .v2xB8, .v2xB9, .v2xBA, .v2xBB, .v2xBC, .v2xBD, .v2xBE, .v2xBF]

/-- Indices 0xC0 to 0xDF. -/
def writeRows6 : List (BitVec 4 → Word → Instr) :=
  [.textureMode, .tLOD, .tDetail, .texBaseAddr, .texBaseAddr_1, .texBaseAddr_2, .texBaseAddr_3_8,
   .trexInit0, .trexInit1, .ncc0Entry0, .ncc0Entry1, .ncc0Entry2, .ncc0Entry3, .ncc0Entry4, .ncc0Entry5,
   .ncc0Entry6, .ncc0Entry7, .ncc0Entry8, .ncc0Entry9, .ncc0Entry10, .ncc0Entry11, .ncc1Entry0,
   .ncc1Entry1, .ncc1Entry2, .ncc1Entry3, .ncc1Entry4, .ncc1Entry5, .ncc1Entry6, .ncc1Entry7, .ncc1Entry8,
   .ncc1Entry9, .ncc1Entry10]

/-- Indices 0xE0 to 0xFF. -/
def writeRows7 : List (BitVec 4 → Word → Instr) :=
  [.ncc1Entry11, fun _ _ => .reservedE1, fun _ _ => .reservedE2, fun _ _ => .reservedE3,
   fun _ _ => .reservedE4, fun _ _ => .reservedE5, fun _ _ => .reservedE6, fun _ _ => .reservedE7,
   fun _ _ => .reservedE8, fun _ _ => .reservedE9, fun _ _ => .reservedEA, fun _ _ => .reservedEB,
   fun _ _ => .reservedEC, fun _ _ => .reservedED, fun _ _ => .reservedEE, fun _ _ => .reservedEF,
   fun _ _ => .reservedF0, fun _ _ => .reservedF1, fun _ _ => .reservedF2, fun _ _ => .reservedF3,
   fun _ _ => .reservedF4, fun _ _ => .reservedF5, fun _ _ => .reservedF6, fun _ _ => .reservedF7,
   fun _ _ => .reservedF8, fun _ _ => .reservedF9, fun _ _ => .reservedFA, fun _ _ => .reservedFB,
   fun _ _ => .reservedFC, fun _ _ => .reservedFD, fun _ _ => .reservedFE, fun _ _ => .reservedFF]

/-- The register-write instructions by index. -/
def writeRows : List (BitVec 4 → Word → Instr) :=
  writeRows0 ++ writeRows1 ++ writeRows2 ++ writeRows3 ++ writeRows4 ++ writeRows5 ++ writeRows6 ++ writeRows7

/-- The chip-select field, offset bits 11:8 (R101). -/
def offsetChips (offset : Word) : BitVec 4 := offset.extractLsb' 8 4

/-- A `REG_WR`: the index names the register (R108), but for an offset that may be aliased (R103). -/
def decodeRegWr (offset value : Word) : Instr :=
  if aliasable offset then .regWr offset value
  else match writeRows[field offset 0 8]? with
    | some row => row (offsetChips offset) value
    | none => .regWr offset value

/-- A `REG_RD`: the computed reads have their own instruction (R139). -/
def decodeRegRd (offset : Word) : Instr :=
  if aliasable offset then .regRd offset
  else match field offset 0 8 with
    | 0x00 => .statusRead
    | 0x86 => .fbiInit2Read
    | 0x53 => .fbiPixelsInRead
    | 0x54 => .fbiChromaFailRead
    | 0x55 => .fbiZfuncFailRead
    | 0x56 => .fbiAfuncFailRead
    | 0x57 => .fbiPixelsOutRead
    | 0x81 => .vRetraceRead
    | 0x90 => .hvRetraceRead
    | 0x96 => .fbiSwapHistoryRead
    | 0x97 => .fbiTrianglesOutRead
    | _ => .regRd offset

/-- The decoder. -/
def decode : BusCycle → Except DecodeError Instr
  | .regWr offset value => .ok (decodeRegWr offset value)
  | .grantedWr offset value =>
    .ok (if reservedIndex (field offset 0 8) then .regWr offset value else decodeRegWr offset value)
  | .regRd offset => .ok (decodeRegRd offset)
  | .lfbWr offset value mask => .ok (.lfbWr offset value mask)
  | .lfbRd offset => .ok (.lfbRd offset)
  | .texWr offset value => .ok (.texWr offset value)
  | .pciIniten value => .ok (.pciIniten value)
  | .reset config policy =>
    if !config.wf then .error .badResetConfig
    else if !policy.wf config then .error .badResetValues
    else .ok (.reset config policy)

/-- The register offset with this index and chip-select and every other bit 0 (R101). -/
def regOffset (index : BitVec 8) (chips : BitVec 4) : Word := (0#20 ++ chips ++ index : BitVec 32)

/-- The encoder: the bus operation of an instruction. -/
def encode : Instr → BusCycle
  | .regWr o v => if aliasable o then .regWr o v else .grantedWr o v
  | .regRd o => .regRd o
  | .lfbWr o v m => .lfbWr o v m
  | .lfbRd o => .lfbRd o
  | .texWr o v => .texWr o v
  | .pciIniten v => .pciIniten v
  | .reset c p => .reset c p
  | .status k v => .regWr (regOffset 0x00 k) v
  | .intrCtrl k v => .regWr (regOffset 0x01 k) v
  | .vertexAx k v => .regWr (regOffset 0x02 k) v
  | .vertexAy k v => .regWr (regOffset 0x03 k) v
  | .vertexBx k v => .regWr (regOffset 0x04 k) v
  | .vertexBy k v => .regWr (regOffset 0x05 k) v
  | .vertexCx k v => .regWr (regOffset 0x06 k) v
  | .vertexCy k v => .regWr (regOffset 0x07 k) v
  | .startR k v => .regWr (regOffset 0x08 k) v
  | .startG k v => .regWr (regOffset 0x09 k) v
  | .startB k v => .regWr (regOffset 0x0A k) v
  | .startZ k v => .regWr (regOffset 0x0B k) v
  | .startA k v => .regWr (regOffset 0x0C k) v
  | .startS k v => .regWr (regOffset 0x0D k) v
  | .startT k v => .regWr (regOffset 0x0E k) v
  | .startW k v => .regWr (regOffset 0x0F k) v
  | .dRdX k v => .regWr (regOffset 0x10 k) v
  | .dGdX k v => .regWr (regOffset 0x11 k) v
  | .dBdX k v => .regWr (regOffset 0x12 k) v
  | .dZdX k v => .regWr (regOffset 0x13 k) v
  | .dAdX k v => .regWr (regOffset 0x14 k) v
  | .dSdX k v => .regWr (regOffset 0x15 k) v
  | .dTdX k v => .regWr (regOffset 0x16 k) v
  | .dWdX k v => .regWr (regOffset 0x17 k) v
  | .dRdY k v => .regWr (regOffset 0x18 k) v
  | .dGdY k v => .regWr (regOffset 0x19 k) v
  | .dBdY k v => .regWr (regOffset 0x1A k) v
  | .dZdY k v => .regWr (regOffset 0x1B k) v
  | .dAdY k v => .regWr (regOffset 0x1C k) v
  | .dSdY k v => .regWr (regOffset 0x1D k) v
  | .dTdY k v => .regWr (regOffset 0x1E k) v
  | .dWdY k v => .regWr (regOffset 0x1F k) v
  | .triangleCMD k v => .regWr (regOffset 0x20 k) v
  | .reserved21 => .regWr (regOffset 0x21 0) 0
  | .fvertexAx k v => .regWr (regOffset 0x22 k) v
  | .fvertexAy k v => .regWr (regOffset 0x23 k) v
  | .fvertexBx k v => .regWr (regOffset 0x24 k) v
  | .fvertexBy k v => .regWr (regOffset 0x25 k) v
  | .fvertexCx k v => .regWr (regOffset 0x26 k) v
  | .fvertexCy k v => .regWr (regOffset 0x27 k) v
  | .fstartR k v => .regWr (regOffset 0x28 k) v
  | .fstartG k v => .regWr (regOffset 0x29 k) v
  | .fstartB k v => .regWr (regOffset 0x2A k) v
  | .fstartZ k v => .regWr (regOffset 0x2B k) v
  | .fstartA k v => .regWr (regOffset 0x2C k) v
  | .fstartS k v => .regWr (regOffset 0x2D k) v
  | .fstartT k v => .regWr (regOffset 0x2E k) v
  | .fstartW k v => .regWr (regOffset 0x2F k) v
  | .fdRdX k v => .regWr (regOffset 0x30 k) v
  | .fdGdX k v => .regWr (regOffset 0x31 k) v
  | .fdBdX k v => .regWr (regOffset 0x32 k) v
  | .fdZdX k v => .regWr (regOffset 0x33 k) v
  | .fdAdX k v => .regWr (regOffset 0x34 k) v
  | .fdSdX k v => .regWr (regOffset 0x35 k) v
  | .fdTdX k v => .regWr (regOffset 0x36 k) v
  | .fdWdX k v => .regWr (regOffset 0x37 k) v
  | .fdRdY k v => .regWr (regOffset 0x38 k) v
  | .fdGdY k v => .regWr (regOffset 0x39 k) v
  | .fdBdY k v => .regWr (regOffset 0x3A k) v
  | .fdZdY k v => .regWr (regOffset 0x3B k) v
  | .fdAdY k v => .regWr (regOffset 0x3C k) v
  | .fdSdY k v => .regWr (regOffset 0x3D k) v
  | .fdTdY k v => .regWr (regOffset 0x3E k) v
  | .fdWdY k v => .regWr (regOffset 0x3F k) v
  | .ftriangleCMD k v => .regWr (regOffset 0x40 k) v
  | .fbzColorPath k v => .regWr (regOffset 0x41 k) v
  | .fogMode k v => .regWr (regOffset 0x42 k) v
  | .alphaMode k v => .regWr (regOffset 0x43 k) v
  | .fbzMode k v => .regWr (regOffset 0x44 k) v
  | .lfbMode k v => .regWr (regOffset 0x45 k) v
  | .clipLeftRight k v => .regWr (regOffset 0x46 k) v
  | .clipLowYHighY k v => .regWr (regOffset 0x47 k) v
  | .nopCMD k v => .regWr (regOffset 0x48 k) v
  | .fastfillCMD k v => .regWr (regOffset 0x49 k) v
  | .swapbufferCMD k v => .regWr (regOffset 0x4A k) v
  | .fogColor k v => .regWr (regOffset 0x4B k) v
  | .zaColor k v => .regWr (regOffset 0x4C k) v
  | .chromaKey k v => .regWr (regOffset 0x4D k) v
  | .chromaRange k v => .regWr (regOffset 0x4E k) v
  | .userIntrCMD k v => .regWr (regOffset 0x4F k) v
  | .stipple k v => .regWr (regOffset 0x50 k) v
  | .color0 k v => .regWr (regOffset 0x51 k) v
  | .color1 k v => .regWr (regOffset 0x52 k) v
  | .fbiPixelsIn k v => .regWr (regOffset 0x53 k) v
  | .fbiChromaFail k v => .regWr (regOffset 0x54 k) v
  | .fbiZfuncFail k v => .regWr (regOffset 0x55 k) v
  | .fbiAfuncFail k v => .regWr (regOffset 0x56 k) v
  | .fbiPixelsOut k v => .regWr (regOffset 0x57 k) v
  | .fogTable0 k v => .regWr (regOffset 0x58 k) v
  | .fogTable1 k v => .regWr (regOffset 0x59 k) v
  | .fogTable2 k v => .regWr (regOffset 0x5A k) v
  | .fogTable3 k v => .regWr (regOffset 0x5B k) v
  | .fogTable4 k v => .regWr (regOffset 0x5C k) v
  | .fogTable5 k v => .regWr (regOffset 0x5D k) v
  | .fogTable6 k v => .regWr (regOffset 0x5E k) v
  | .fogTable7 k v => .regWr (regOffset 0x5F k) v
  | .fogTable8 k v => .regWr (regOffset 0x60 k) v
  | .fogTable9 k v => .regWr (regOffset 0x61 k) v
  | .fogTable10 k v => .regWr (regOffset 0x62 k) v
  | .fogTable11 k v => .regWr (regOffset 0x63 k) v
  | .fogTable12 k v => .regWr (regOffset 0x64 k) v
  | .fogTable13 k v => .regWr (regOffset 0x65 k) v
  | .fogTable14 k v => .regWr (regOffset 0x66 k) v
  | .fogTable15 k v => .regWr (regOffset 0x67 k) v
  | .fogTable16 k v => .regWr (regOffset 0x68 k) v
  | .fogTable17 k v => .regWr (regOffset 0x69 k) v
  | .fogTable18 k v => .regWr (regOffset 0x6A k) v
  | .fogTable19 k v => .regWr (regOffset 0x6B k) v
  | .fogTable20 k v => .regWr (regOffset 0x6C k) v
  | .fogTable21 k v => .regWr (regOffset 0x6D k) v
  | .fogTable22 k v => .regWr (regOffset 0x6E k) v
  | .fogTable23 k v => .regWr (regOffset 0x6F k) v
  | .fogTable24 k v => .regWr (regOffset 0x70 k) v
  | .fogTable25 k v => .regWr (regOffset 0x71 k) v
  | .fogTable26 k v => .regWr (regOffset 0x72 k) v
  | .fogTable27 k v => .regWr (regOffset 0x73 k) v
  | .fogTable28 k v => .regWr (regOffset 0x74 k) v
  | .fogTable29 k v => .regWr (regOffset 0x75 k) v
  | .fogTable30 k v => .regWr (regOffset 0x76 k) v
  | .fogTable31 k v => .regWr (regOffset 0x77 k) v
  | .cmdFifo78 k v => .regWr (regOffset 0x78 k) v
  | .cmdFifo79 k v => .regWr (regOffset 0x79 k) v
  | .cmdFifo7A k v => .regWr (regOffset 0x7A k) v
  | .cmdFifo7B k v => .regWr (regOffset 0x7B k) v
  | .cmdFifo7C k v => .regWr (regOffset 0x7C k) v
  | .cmdFifo7D k v => .regWr (regOffset 0x7D k) v
  | .cmdFifo7E k v => .regWr (regOffset 0x7E k) v
  | .cmdFifo7F k v => .regWr (regOffset 0x7F k) v
  | .fbiInit4 k v => .regWr (regOffset 0x80 k) v
  | .vRetrace k v => .regWr (regOffset 0x81 k) v
  | .backPorch k v => .regWr (regOffset 0x82 k) v
  | .videoDimensions k v => .regWr (regOffset 0x83 k) v
  | .fbiInit0 k v => .regWr (regOffset 0x84 k) v
  | .fbiInit1 k v => .regWr (regOffset 0x85 k) v
  | .fbiInit2 k v => .regWr (regOffset 0x86 k) v
  | .fbiInit3 k v => .regWr (regOffset 0x87 k) v
  | .hSync k v => .regWr (regOffset 0x88 k) v
  | .vSync k v => .regWr (regOffset 0x89 k) v
  | .clutData k v => .regWr (regOffset 0x8A k) v
  | .dacData k v => .regWr (regOffset 0x8B k) v
  | .maxRgbDelta k v => .regWr (regOffset 0x8C k) v
  | .hBorder k v => .regWr (regOffset 0x8D k) v
  | .vBorder k v => .regWr (regOffset 0x8E k) v
  | .borderColor k v => .regWr (regOffset 0x8F k) v
  | .hvRetrace k v => .regWr (regOffset 0x90 k) v
  | .fbiInit5 k v => .regWr (regOffset 0x91 k) v
  | .fbiInit6 k v => .regWr (regOffset 0x92 k) v
  | .fbiInit7 k v => .regWr (regOffset 0x93 k) v
  | .reserved94 => .regWr (regOffset 0x94 0) 0
  | .reserved95 => .regWr (regOffset 0x95 0) 0
  | .fbiSwapHistory k v => .regWr (regOffset 0x96 k) v
  | .fbiTrianglesOut k v => .regWr (regOffset 0x97 k) v
  | .sSetupMode k v => .regWr (regOffset 0x98 k) v
  | .sVx k v => .regWr (regOffset 0x99 k) v
  | .sVy k v => .regWr (regOffset 0x9A k) v
  | .sARGB k v => .regWr (regOffset 0x9B k) v
  | .sRed k v => .regWr (regOffset 0x9C k) v
  | .sGreen k v => .regWr (regOffset 0x9D k) v
  | .sBlue k v => .regWr (regOffset 0x9E k) v
  | .sAlpha k v => .regWr (regOffset 0x9F k) v
  | .sVz k v => .regWr (regOffset 0xA0 k) v
  | .sWb k v => .regWr (regOffset 0xA1 k) v
  | .sWtmu0 k v => .regWr (regOffset 0xA2 k) v
  | .sS_W0 k v => .regWr (regOffset 0xA3 k) v
  | .sT_W0 k v => .regWr (regOffset 0xA4 k) v
  | .sWtmu1 k v => .regWr (regOffset 0xA5 k) v
  | .sS_Wtmu1 k v => .regWr (regOffset 0xA6 k) v
  | .sT_Wtmu1 k v => .regWr (regOffset 0xA7 k) v
  | .sDrawTriCMD k v => .regWr (regOffset 0xA8 k) v
  | .sBeginTriCMD k v => .regWr (regOffset 0xA9 k) v
  | .v2xAA k v => .regWr (regOffset 0xAA k) v
  | .v2xAB k v => .regWr (regOffset 0xAB k) v
  | .v2xAC k v => .regWr (regOffset 0xAC k) v
  | .v2xAD k v => .regWr (regOffset 0xAD k) v
  | .v2xAE k v => .regWr (regOffset 0xAE k) v
  | .v2xAF k v => .regWr (regOffset 0xAF k) v
  | .v2xB0 k v => .regWr (regOffset 0xB0 k) v
  | .v2xB1 k v => .regWr (regOffset 0xB1 k) v
  | .v2xB2 k v => .regWr (regOffset 0xB2 k) v
  | .v2xB3 k v => .regWr (regOffset 0xB3 k) v
  | .v2xB4 k v => .regWr (regOffset 0xB4 k) v
  | .v2xB5 k v => .regWr (regOffset 0xB5 k) v
  | .v2xB6 k v => .regWr (regOffset 0xB6 k) v
  | .v2xB7 k v => .regWr (regOffset 0xB7 k) v
  | .v2xB8 k v => .regWr (regOffset 0xB8 k) v
  | .v2xB9 k v => .regWr (regOffset 0xB9 k) v
  | .v2xBA k v => .regWr (regOffset 0xBA k) v
  | .v2xBB k v => .regWr (regOffset 0xBB k) v
  | .v2xBC k v => .regWr (regOffset 0xBC k) v
  | .v2xBD k v => .regWr (regOffset 0xBD k) v
  | .v2xBE k v => .regWr (regOffset 0xBE k) v
  | .v2xBF k v => .regWr (regOffset 0xBF k) v
  | .textureMode k v => .regWr (regOffset 0xC0 k) v
  | .tLOD k v => .regWr (regOffset 0xC1 k) v
  | .tDetail k v => .regWr (regOffset 0xC2 k) v
  | .texBaseAddr k v => .regWr (regOffset 0xC3 k) v
  | .texBaseAddr_1 k v => .regWr (regOffset 0xC4 k) v
  | .texBaseAddr_2 k v => .regWr (regOffset 0xC5 k) v
  | .texBaseAddr_3_8 k v => .regWr (regOffset 0xC6 k) v
  | .trexInit0 k v => .regWr (regOffset 0xC7 k) v
  | .trexInit1 k v => .regWr (regOffset 0xC8 k) v
  | .ncc0Entry0 k v => .regWr (regOffset 0xC9 k) v
  | .ncc0Entry1 k v => .regWr (regOffset 0xCA k) v
  | .ncc0Entry2 k v => .regWr (regOffset 0xCB k) v
  | .ncc0Entry3 k v => .regWr (regOffset 0xCC k) v
  | .ncc0Entry4 k v => .regWr (regOffset 0xCD k) v
  | .ncc0Entry5 k v => .regWr (regOffset 0xCE k) v
  | .ncc0Entry6 k v => .regWr (regOffset 0xCF k) v
  | .ncc0Entry7 k v => .regWr (regOffset 0xD0 k) v
  | .ncc0Entry8 k v => .regWr (regOffset 0xD1 k) v
  | .ncc0Entry9 k v => .regWr (regOffset 0xD2 k) v
  | .ncc0Entry10 k v => .regWr (regOffset 0xD3 k) v
  | .ncc0Entry11 k v => .regWr (regOffset 0xD4 k) v
  | .ncc1Entry0 k v => .regWr (regOffset 0xD5 k) v
  | .ncc1Entry1 k v => .regWr (regOffset 0xD6 k) v
  | .ncc1Entry2 k v => .regWr (regOffset 0xD7 k) v
  | .ncc1Entry3 k v => .regWr (regOffset 0xD8 k) v
  | .ncc1Entry4 k v => .regWr (regOffset 0xD9 k) v
  | .ncc1Entry5 k v => .regWr (regOffset 0xDA k) v
  | .ncc1Entry6 k v => .regWr (regOffset 0xDB k) v
  | .ncc1Entry7 k v => .regWr (regOffset 0xDC k) v
  | .ncc1Entry8 k v => .regWr (regOffset 0xDD k) v
  | .ncc1Entry9 k v => .regWr (regOffset 0xDE k) v
  | .ncc1Entry10 k v => .regWr (regOffset 0xDF k) v
  | .ncc1Entry11 k v => .regWr (regOffset 0xE0 k) v
  | .reservedE1 => .regWr (regOffset 0xE1 0) 0
  | .reservedE2 => .regWr (regOffset 0xE2 0) 0
  | .reservedE3 => .regWr (regOffset 0xE3 0) 0
  | .reservedE4 => .regWr (regOffset 0xE4 0) 0
  | .reservedE5 => .regWr (regOffset 0xE5 0) 0
  | .reservedE6 => .regWr (regOffset 0xE6 0) 0
  | .reservedE7 => .regWr (regOffset 0xE7 0) 0
  | .reservedE8 => .regWr (regOffset 0xE8 0) 0
  | .reservedE9 => .regWr (regOffset 0xE9 0) 0
  | .reservedEA => .regWr (regOffset 0xEA 0) 0
  | .reservedEB => .regWr (regOffset 0xEB 0) 0
  | .reservedEC => .regWr (regOffset 0xEC 0) 0
  | .reservedED => .regWr (regOffset 0xED 0) 0
  | .reservedEE => .regWr (regOffset 0xEE 0) 0
  | .reservedEF => .regWr (regOffset 0xEF 0) 0
  | .reservedF0 => .regWr (regOffset 0xF0 0) 0
  | .reservedF1 => .regWr (regOffset 0xF1 0) 0
  | .reservedF2 => .regWr (regOffset 0xF2 0) 0
  | .reservedF3 => .regWr (regOffset 0xF3 0) 0
  | .reservedF4 => .regWr (regOffset 0xF4 0) 0
  | .reservedF5 => .regWr (regOffset 0xF5 0) 0
  | .reservedF6 => .regWr (regOffset 0xF6 0) 0
  | .reservedF7 => .regWr (regOffset 0xF7 0) 0
  | .reservedF8 => .regWr (regOffset 0xF8 0) 0
  | .reservedF9 => .regWr (regOffset 0xF9 0) 0
  | .reservedFA => .regWr (regOffset 0xFA 0) 0
  | .reservedFB => .regWr (regOffset 0xFB 0) 0
  | .reservedFC => .regWr (regOffset 0xFC 0) 0
  | .reservedFD => .regWr (regOffset 0xFD 0) 0
  | .reservedFE => .regWr (regOffset 0xFE 0) 0
  | .reservedFF => .regWr (regOffset 0xFF 0) 0
  | .statusRead => .regRd (regOffset 0x00 0)
  | .fbiInit2Read => .regRd (regOffset 0x86 0)
  | .fbiPixelsInRead => .regRd (regOffset 0x53 0)
  | .fbiChromaFailRead => .regRd (regOffset 0x54 0)
  | .fbiZfuncFailRead => .regRd (regOffset 0x55 0)
  | .fbiAfuncFailRead => .regRd (regOffset 0x56 0)
  | .fbiPixelsOutRead => .regRd (regOffset 0x57 0)
  | .vRetraceRead => .regRd (regOffset 0x81 0)
  | .hvRetraceRead => .regRd (regOffset 0x90 0)
  | .fbiSwapHistoryRead => .regRd (regOffset 0x96 0)
  | .fbiTrianglesOutRead => .regRd (regOffset 0x97 0)

/-- The opcode table's bits of a register write (spec/opcode_table.json): bits 31:0 are the offset, bits
63:32 the data word. The table gives the other operations no bits of their own (DESIGN CHOICE, safe:
notes/assumptions/36.md). -/
def tableCycle (w : Nat) : BusCycle := .regWr (BitVec.ofNat 32 w) (BitVec.ofNat 32 (w >>> 32))

/-- What the decoder reads from the table's bits. -/
def decodeTable (nbits w : Nat) : Except DecodeError Instr :=
  if nbits ≤ 64 ∧ w < 2 ^ 64 then decode (tableCycle w) else .error .tooWide

/-- The host's question: the instruction the decoder reads, if any. -/
def decodeTableWord (nbits w : Nat) : Option Instr :=
  match decodeTable nbits w with
  | .ok i => some i
  | .error _ => none

end Sys2Proof
end

