-- ==== Sys2Proof/Machine/State.lean ====
section
/-! DEFINITION. The state of the chip (10_state R20–R29, 43_raster_cache R270), the reasons a step can stop,
and the state after reset. -/

namespace Sys2Proof.Machine

open Sys2Proof

/-- The reasons of the fatal state (60_exceptions R402). -/
inductive FatalReason where
  | cacheOverflow
  | badMemorySize
deriving DecidableEq, Repr

/-- Why the machine stops with a fault. -/
inductive Fault where
  /-- The chip is in the fatal state and no operation but RESET has a step (R135, R402). Raised by every
  meaning but RESET's. Safe: the spec gives no step here. -/
  | fatal (reason : FatalReason)
deriving DecidableEq, Repr

/-- Why a step is refused. -/
inductive Refusal where
  /-- An instruction without a meaning. Raised by exec alone, and by none of its arms. Safe. -/
  | notModelled (mnemonic : String)
  /-- A TEX_WR to a V2 unit with tLOD.tdirect_write = 1 (R193, R403). Raised by TEX_WR. Safe. -/
  | directWrite
  /-- A texel fetch from a unit whose format has no lookup: 7, 15, or 6 under V1 (R185, R403). Raised by
  the triangle commands. Safe. -/
  | badTextureFormat
  /-- A texel fetch at a mip level above 8 (R194, R403). Raised by the triangle commands. Safe. -/
  | lodOutOfRange
  /-- The host's next operation does not decode. Raised by step. Safe. -/
  | undecodable (why : DecodeError)
deriving DecidableEq, Repr

/-- DAC state (R25): eight byte registers, by number, and the pending read result. -/
structure Dac where
  reg : Memory 8
  readResult : Byte
deriving DecidableEq, Repr

/-- FBI state (R26). -/
structure Fbi where
  ram : Memory 8
  mask : Word
  rgb0 : Option Word
  rgb1 : Option Word
  rgb2 : Option Word
  auxoffs : Option Word
  frontbuf : Fin 3
  backbuf : Fin 3
  tileW : Word
  tileH : Word
  xTiles : Word
  rowpixels : Word
  fifoBase : Word
  fifoWords : Word
  yorigin : BitVec 10
  va : Vertex
  vb : Vertex
  vc : Vertex
  r : Grad 32
  g : Grad 32
  b : Grad 32
  a : Grad 32
  z : Grad 32
  w : Grad 64
  fogblend : Memory 8
  fogdelta : Memory 8
  svert0 : SetupVertex
  svert1 : SetupVertex
  svert2 : SetupVertex
  sverts : Word
  vblank : Bool
  swapCount : Word
deriving DecidableEq, Repr

/-- One NCC table (R27): 16 luma values, two sets of 4 chroma coefficients, the derived 256 entries. -/
structure Ncc where
  y : Memory 8
  ir : Memory 9
  ig : Memory 9
  ib : Memory 9
  qr : Memory 9
  qg : Memory 9
  qb : Memory 9
  texel : Memory 32
  dirty : Bool
deriving DecidableEq, Repr

/-- A table selector, one of the "16 pointers" (R27, R185). -/
inductive Lookup where
  | none
  | rgb332
  | ncc0
  | ncc1
  | alpha8
  | int8
  | ai44
  | palette
  | palettea
  | rgb565
  | argb1555
  | argb4444
deriving DecidableEq, Repr

/-- Texture unit state (R27). -/
structure Tmu where
  ram : Memory 8
  mask : Word
  s : Grad 64
  t : Grad 64
  w : Grad 64
  lodmin : Word
  lodmax : Word
  lodbias : Word
  lodmask : BitVec 9
  wmask : Byte
  hmask : Byte
  lodoffset : Memory 32
  detailmax : Word
  detailbias : Word
  detailscale : Word
  ncc0 : Ncc
  ncc1 : Ncc
  palette : Memory 32
  palettea : Memory 32
  texel : List Lookup
  lookup : Lookup
  regdirty : Bool
deriving DecidableEq, Repr

/-- The normalised key of a cache entry (R270). -/
structure Key where
  cp : Word
  fbz : Word
  alpha : Word
  fog : Word
  tex0 : Word
  tex1 : Word
deriving DecidableEq, Repr

/-- A cache entry (R270); `routine` n stands for generic(n). -/
structure CacheEntry where
  key : Key
  routine : Nat
  hits : Word
  polys : Word
deriving DecidableEq, Repr

/-- The rasterizer cache (R270): 97 buckets of entry numbers, most recently used first, and the entries
in the order of their allocation, whose number is R270's `count`. -/
structure Cache where
  buckets : List (List Nat)
  entries : List CacheEntry
deriving DecidableEq, Repr

/-- The machine: the chip state of R20, and four fields of the model's own: the parameters of the last
RESET, the host's operations still to come, what the last operation returned, and how many values the
environment has drawn (DESIGN CHOICE: notes/assumptions/1.md, 2.md, 5.md, 9.md). Register slot
`bank * 256 + index` of R21 is cell `bank * 256 + index` of `regs`. -/
structure State where
  regs : Memory 32
  initEnable : Word
  pciFifoSize : Word
  dac : Dac
  fbi : Fbi
  tmu0 : Tmu
  tmu1 : Tmu
  cache : Cache
  stats : Stats
  fatal : Option FatalReason
  config : Config
  pending : List BusCycle
  result : Option Word
  draws : Nat
deriving DecidableEq, Repr

/-- The empty cache (R423). -/
def Cache.empty : Cache := { buckets := List.replicate 97 [], entries := [] }

/-- An NCC table of zero coefficients whose entries are still to be built (R421). R421 gives the 256 derived
entries no value before that first rebuild: 0 is the model's (DESIGN CHOICE, unsafe: notes/assumptions/39.md). -/
def Ncc.zero : Ncc :=
  { y := [], ir := [], ig := [], ib := [], qr := [], qg := [], qb := [], texel := [], dirty := true }

/-- A texture unit after reset (R421): 2 MiB of zeros, dirty, with the derived tables that a recompute of
the zero registers gives (R181–R188). -/
def Tmu.reset : Tmu :=
  { ram := [], mask := 0x1FFFFF, s := Grad.zero 64, t := Grad.zero 64, w := Grad.zero 64,
    lodmin := 0, lodmax := 0, lodbias := 0, lodmask := 0x1FF, wmask := 0xFF, hmask := 0xFF,
    lodoffset := [(1, 0x10000), (2, 0x14000), (3, 0x15000), (4, 0x15400), (5, 0x15500), (6, 0x15540),
      (7, 0x15550), (8, 0x15554)],
    detailmax := 0, detailbias := 0, detailscale := 0, ncc0 := Ncc.zero, ncc1 := Ncc.zero,
    palette := [], palettea := [],
    texel := [.rgb332, .ncc0, .alpha8, .int8, .ai44, .palette, .none, .none, .rgb332, .ncc0, .rgb565,
      .argb1555, .argb4444, .int8, .palette, .none],
    lookup := .rgb332, regdirty := true }

/-- FBI state after reset (R421, R422): the layout is the one R380–R382 derive from the reset registers. -/
def Fbi.reset : Fbi :=
  { ram := [], mask := 0x1FFFFF, rgb0 := some 0, rgb1 := some 0, rgb2 := none, auxoffs := some 0,
    frontbuf := 0, backbuf := 1, tileW := 64, tileH := 16, xTiles := 0, rowpixels := 0, fifoBase := 0,
    fifoWords := 0, yorigin := 0, va := { x := 0, y := 0 }, vb := { x := 0, y := 0 },
    vc := { x := 0, y := 0 }, r := Grad.zero 32, g := Grad.zero 32, b := Grad.zero 32,
    a := Grad.zero 32, z := Grad.zero 32, w := Grad.zero 64, fogblend := [], fogdelta := [],
    svert0 := SetupVertex.zero, svert1 := SetupVertex.zero, svert2 := SetupVertex.zero, sverts := 0,
    vblank := false, swapCount := 0 }

/-- The machine right after RESET under RESET_POLICY = REFERENCE (R420–R424), for 95's start state S0:
V1, one texture unit, 2 MiB memories (DESIGN CHOICE, unsafe: notes/assumptions/3.md; the register values are
R421's: notes/assumptions/11.md; pciFifoSize: notes/assumptions/12.md). The host has no operation pending. -/
def State.reset : State :=
  { regs := [(0x80, 0x00000001), (0x84, 0x00000410), (0x85, 0x00201102), (0x86, 0x80000040),
      (0x87, 0x001E4000)],
    initEnable := 0, pciFifoSize := 0, dac := { reg := [], readResult := 0 }, fbi := Fbi.reset,
    tmu0 := Tmu.reset, tmu1 := Tmu.reset, cache := Cache.empty, stats := Stats.zero, fatal := none,
    config := Config.standard .v1, pending := [], result := none, draws := 0 }

end Sys2Proof.Machine
end

