-- ==== Sys2Proof/Machine/Ops.lean ====
section
/-! DEFINITION. The named operations over registers, memories and outcomes that every meaning is written
with (00_scope R13): slots and banks, framebuffer and texture RAM, statistics, draws, dropping, refusing and
raising FATAL. The chip takes no exception and returns from none (60_exceptions R400, R405): the nearest
thing is the fatal state, entered by `raiseFatal` and left by RESET alone. -/

namespace Sys2Proof.Machine

open Sys2Proof

/-- What a meaning answers. -/
abbrev Answer := Host.Outcome State Fault Refusal

/-! ## Outcomes (R400–R403) -/

/-- `require fatal = none` (R130, R135, R407): in the fatal state there is no step. -/
def unlessFatal (s : State) (k : State → Answer) : Answer :=
  match s.fatal with
  | some reason => .fault (.fatal reason)
  | none => k s

/-- The operation ends and returns nothing on the bus (R100). -/
def done (s : State) : Answer := .next { s with result := none }

/-- The operation ends and returns `v` on the bus (R100). -/
def answer (v : Word) (s : State) : Answer := .next { s with result := some v }

/-- `drop(reason)`: the operation ends with no state change (R401). -/
def drop (s : State) : Answer := done s

/-- `raise FATAL(reason)`: the fatal state is entered, the effects made before stay (R402, D13). -/
def raiseFatal (reason : FatalReason) (s : State) : Answer :=
  .next { s with fatal := some reason, result := none }

/-- Go on with the next state, stop with a fault or a refusal. -/
def andThen (o : Answer) (k : State → Answer) : Answer :=
  match o with
  | .next s => k s
  | .fault r => .fault r
  | .refused r => .refused r

/-- `k i`, `k (i + 1)`, …, `n` of them, in that order. -/
def forRange (n i : Nat) (k : Nat → State → Answer) (s : State) : Answer :=
  match n with
  | 0 => .next s
  | n + 1 => andThen (k i s) (forRange n (i + 1) k)

/-! ## Registers (R13, R21) -/

/-- `reg[bank][index]`. -/
def State.reg (s : State) (bank index : Nat) : Word := s.regs.read (bank * 256 + index)

/-- `reg[bank][index] <- v`. -/
def State.setReg (s : State) (bank index : Nat) (v : Word) : State :=
  { s with regs := s.regs.write (bank * 256 + index) v }

/-- `R(u, index)`: unit `u`'s own copy of a texture register (41_texture_unit). -/
def State.texReg (s : State) (u index : Nat) : Word := s.reg (u + 1) index

/-- Unit `u` of the two. -/
def State.tmu (s : State) (u : Nat) : Tmu := if u = 0 then s.tmu0 else s.tmu1

/-- Replace unit `u`. -/
def State.setTmu (s : State) (u : Nat) (t : Tmu) : State :=
  if u = 0 then { s with tmu0 := t } else { s with tmu1 := t }

/-- Replace the FBI. -/
def State.setFbi (s : State) (f : Fbi) : State := { s with fbi := f }

/-- Replace the statistics block. -/
def State.setStats (s : State) (c : Stats) : State := { s with stats := c }

/-- Is the variant V2 (R3)? -/
def State.isV2 (s : State) : Bool := decide (s.config.variant = .v2)

/-! ## Chip-select (R102) -/

/-- `sel(k)` of R130 for the three banks that can be present. -/
structure Select where
  fbi : Bool
  tmu0 : Bool
  tmu1 : Bool
deriving DecidableEq, Repr

/-- The banks a chip-select names: 0 names all; bank 3 is absent, bank k+1 is present when unit k is
(R102, R130, D4, D42). -/
def selectOf (c : Config) (chips : BitVec 4) : Select :=
  let k := if chips = 0 then 0xF#4 else chips
  { fbi := bit k 0, tmu0 := bit k 1 && decide (1 ≤ c.ntmu.val), tmu1 := bit k 2 && decide (c.ntmu.val = 2) }

/-- Is unit `u` selected? -/
def Select.tmu (sel : Select) (u : Nat) : Bool := if u = 0 then sel.tmu0 else sel.tmu1

/-- For each selected bank `k`: `reg[k][index] <- value` (R130, R131). -/
def storeBanks (sel : Select) (index : Nat) (value : Word) (s : State) : State :=
  let s := if sel.fbi then s.setReg 0 index value else s
  let s := if sel.tmu0 then s.setReg 1 index value else s
  if sel.tmu1 then s.setReg 2 index value else s

/-- Change each selected unit. -/
def forUnits (sel : Select) (change : Tmu → Tmu) (s : State) : State :=
  let s := if sel.tmu0 then { s with tmu0 := change s.tmu0 } else s
  if sel.tmu1 then { s with tmu1 := change s.tmu1 } else s

/-! ## Draws from the environment (D20, D29) -/

/-- One more value has been drawn. -/
def State.drawn (s : State) : State := { s with draws := s.draws + 1 }

/-! ## Framebuffer RAM (R83, R85, R88) -/

/-- `FB_WR16(a, v)`, little-endian; a word that does not fit in RAM is not written (DEDUCED, safe:
notes/assumptions/23.md). -/
def fbWrite16 (a : Nat) (v : Half) (s : State) : State :=
  if a + 1 > s.fbi.mask.toNat then s
  else s.setFbi { s.fbi with ram := (s.fbi.ram.write a (v.extractLsb' 0 8)).write (a + 1) (v.extractLsb' 8 8) }

/-- The stored 16-bit word at `a`. -/
def fbWord (a : Nat) (f : Fbi) : Half := f.ram.read (a + 1) ++ f.ram.read a

/-- `FB_RD16(a)` of the pipeline: outside RAM the value is a draw from the environment. -/
def fbRead16 (a : Nat) (s : State) : Half × State :=
  if a + 1 > s.fbi.mask.toNat then (Config.drawPixel s.draws, s.drawn)
  else (fbWord a s.fbi, s)

/-! ## Texture RAM (R83, R85, R200): every byte address is masked -/

/-- `TEX_RD8(u, a)`. -/
def texRead8 (t : Tmu) (a : Nat) : Byte := t.ram.read (a &&& t.mask.toNat)

/-- `TEX_RD16(u, a)`. -/
def texRead16 (t : Tmu) (a : Nat) : Half :=
  let a := a &&& t.mask.toNat
  texRead8 t (a + 1) ++ texRead8 t a

/-- `TEX_WR8(u, a, v)`. -/
def texWrite8 (a : Nat) (v : Byte) (t : Tmu) : Tmu := { t with ram := t.ram.write (a &&& t.mask.toNat) v }

/-- `TEX_WR16(u, a, v)`. -/
def texWrite16 (a : Nat) (v : Half) (t : Tmu) : Tmu :=
  let a := a &&& t.mask.toNat
  texWrite8 (a + 1) (v.extractLsb' 8 8) (texWrite8 a (v.extractLsb' 0 8) t)

/-! ## Statistics (R28, R140, R151) -/

/-- `fold_stats()` (R140): the five counters that have a register are added into it and cleared; the stipple
counter stays (DEDUCED, safe: notes/assumptions/18.md). -/
def foldStats (s : State) : State :=
  let c := s.stats
  let s := s.setReg 0 Reg.fbiPixelsIn (s.reg 0 Reg.fbiPixelsIn + c.pixelsIn)
  let s := s.setReg 0 Reg.fbiChromaFail (s.reg 0 Reg.fbiChromaFail + c.chromaFail)
  let s := s.setReg 0 Reg.fbiZfuncFail (s.reg 0 Reg.fbiZfuncFail + c.zfuncFail)
  let s := s.setReg 0 Reg.fbiAfuncFail (s.reg 0 Reg.fbiAfuncFail + c.afuncFail)
  let s := s.setReg 0 Reg.fbiPixelsOut (s.reg 0 Reg.fbiPixelsOut + c.pixelsOut)
  s.setStats { c with pixelsIn := 0, chromaFail := 0, zfuncFail := 0, afuncFail := 0, pixelsOut := 0 }

/-- Clear the statistics block and the five statistics registers (R151). -/
def clearStats (s : State) : State :=
  let s := s.setReg 0 Reg.fbiPixelsIn 0
  let s := s.setReg 0 Reg.fbiChromaFail 0
  let s := s.setReg 0 Reg.fbiZfuncFail 0
  let s := s.setReg 0 Reg.fbiAfuncFail 0
  let s := s.setReg 0 Reg.fbiPixelsOut 0
  s.setStats Stats.zero

/-- The counter reset of nopCMD and of graphics_reset (R151, R162): bit 0 the statistics, bit 1, under V2,
fbiTrianglesOut. -/
def counterReset (clearAll clearTriangles : Bool) (s : State) : State :=
  let s := if clearAll then clearStats s else s
  if clearTriangles && s.isV2 then s.setReg 0 Reg.fbiTrianglesOut 0 else s

end Sys2Proof.Machine
end

