-- ==== Sys2Proof/Machine/Flags.lean ====
section
/-! DEFINITION. Tests and counters: the compare functions (10_state R44, 44 R300), the clamped iterators
(R295), the floating W (R296), and the statistics a pixel counts (R291, R341). -/

namespace Sys2Proof.Machine

open Sys2Proof

/-- `cmp(f, new, old)` (R300). -/
def cmp (f new old : Nat) : Bool :=
  match f with
  | 0 => false
  | 1 => decide (new < old)
  | 2 => decide (new = old)
  | 3 => decide (new ≤ old)
  | 4 => decide (new > old)
  | 5 => decide (new ≠ old)
  | 6 => decide (new ≥ old)
  | _ => true

/-! ## Clamped conversions (R295) -/

/-- The post-shift step of `clamp8`. -/
def clampColour (k : WrapBits) (wrap : Bool) (v : Int) : Nat :=
  if wrap then
    let v := (v % 2 ^ k.colour).toNat
    if v = 2 ^ k.colour - 1 then 0 else if v = 2 ^ k.byte then 2 ^ k.byte - 1 else v % 2 ^ k.byte
  else (clampInt v 0 (2 ^ k.byte - 1)).toNat

/-- `clamp8(iter)`: a 12.12 colour to its byte. -/
def clamp8 (k : Constants) (wrap : Bool) (iter : Word) : Nat :=
  clampColour k.wraps wrap (iter.toInt / 2 ^ k.floats.colour)

/-- The post-shift step of `clamped_z`. -/
def clampDepth (k : WrapBits) (wrap : Bool) (v : Int) : Nat :=
  if wrap then
    let v := (v % 2 ^ k.depth).toNat
    if v = 2 ^ k.depth - 1 then 0 else if v = 2 ^ k.half then 2 ^ k.half - 1 else v % 2 ^ k.half
  else (clampInt v 0 (2 ^ k.half - 1)).toNat

/-- `clamped_z(z)`: a 20.12 depth to 16 bits. -/
def clampedZ (k : Constants) (wrap : Bool) (z : Word) : Nat :=
  clampDepth k.wraps wrap (z.toInt / 2 ^ k.floats.depth)

/-- The post-shift step of `clamped_w`. -/
def clampW (k : WrapBits) (wrap : Bool) (v : Int) : Nat :=
  if wrap then
    let v := (v % 2 ^ k.w).toNat
    (if v = 2 ^ k.w - 1 then 0 else if v = 2 ^ k.byte then 2 ^ k.byte - 1 else v) % 2 ^ k.byte
  else (clampInt v 0 (2 ^ k.byte - 1)).toNat

/-- `clamped_w(w)`: a 16.32 W to a byte. -/
def clampedW (k : Constants) (wrap : Bool) (w : DWord) : Nat :=
  clampW k.wraps wrap (sext k.wraps.w (field w k.floats.w k.wraps.w))

/-! ## Floating W (R296) -/

/-- The exponent and the mantissa of a nonzero u32. -/
def floatCode (k : FloatSteps) (t : Nat) : Nat :=
  (clz32 t <<< k.mantissa ||| (not32 t >>> (31 - k.mantissa - clz32 t)) % 2 ^ k.mantissa) + k.plus

/-- The floating encoding of a 32-bit fraction: `far` below the limit. -/
def floatFraction (k : FloatSteps) (t : Nat) : Nat := if t < k.limit then k.far else floatCode k t

/-- `wfloat(w)`. -/
def wfloat (k : Constants) (w : DWord) : Nat :=
  if field w 32 16 ≠ 0 then k.floating.near else floatFraction k.floating (field w 0 32)

/-! ## Counting (R28, R291, R341) -/

/-- The counters of the statistics block that a pixel can add to. -/
inductive Counter where
  | pixelsIn
  | pixelsOut
  | chromaFail
  | zfuncFail
  | afuncFail
  | stippleCount
deriving DecidableEq, Repr

/-- Add `n` to a counter, modulo 2^32. -/
def Stats.add (c : Stats) (k : Counter) (n : Word) : Stats :=
  match k with
  | .pixelsIn => { c with pixelsIn := c.pixelsIn + n }
  | .pixelsOut => { c with pixelsOut := c.pixelsOut + n }
  | .chromaFail => { c with chromaFail := c.chromaFail + n }
  | .zfuncFail => { c with zfuncFail := c.zfuncFail + n }
  | .afuncFail => { c with afuncFail := c.afuncFail + n }
  | .stippleCount => { c with stippleCount := c.stippleCount + n }

/-- `stats.<counter> += 1`. -/
def count (k : Counter) (s : State) : State := s.setStats (s.stats.add k 1)

end Sys2Proof.Machine
end

