-- ==== Sys2Proof/Machine/Operands.lean ====
section
/-! DEFINITION. Operand forms: the effective register index (30_encoding R103), the access table (10_state
R30, R31), the LFB and texture offsets (R104, R105), the float-encoded registers (40 R148), the LFB data
word, its formats and lanes (45_lfb R360–R365), and the packed colours (00_scope R12). -/

namespace Sys2Proof.Machine

open Sys2Proof

/-! ## The register index -/

/-- The position of the alias-select bit above offset bit 12 (R103, D11). -/
def aliasBit (c : Config) : Fin 20 := c.aliasSel.getD Config.freeAliasSel

/-- `ALIAS_MAP[i]` (R103, D11). -/
def aliasIndex (c : Config) (i : BitVec 6) : BitVec 8 :=
  match c.aliasMap with
  | none => Config.freeAliasMap i
  | some t => t.read i.toNat

/-- `effective_index(offset)` (R103): under V1 with tri_register_remap on, an offset whose alias-select bit
is set has an index below 64 remapped. -/
def effectiveIndex (s : State) (offset : Word) : Nat :=
  if !s.isV2 && FbiInit3.triRegisterRemap (s.reg 0 Reg.fbiInit3) && bit offset (12 + (aliasBit s.config).val) &&
      decide (field offset 0 8 < 64) then
    (aliasIndex s.config (offset.extractLsb' 0 6)).toNat
  else field offset 0 8

/-! ## The register map (R9, D5) -/

/-- The register that stands at bus index `i`. -/
def mappedRegister (m : RegMap) (i : Nat) : Nat := (m.index.getD i 0).val

/-- The host's place of each default bit of register `n`, where the map moves them. -/
def mappedPlaces (m : RegMap) (n : Nat) : Option (List (Fin 32)) :=
  (m.fields.find? fun f => decide (f.1.val = n)).map Prod.snd

/-- The word whose bit `j` is `f j`. -/
def gatherBits (f : Nat → Bool) : Word :=
  (List.range 32).foldr (fun j v => v <<< 1 ||| (if f j then 1 else 0)) 0

/-- The word with its bits at the default places. -/
def placeBits (m : RegMap) (n : Nat) (v : Word) : Word :=
  match mappedPlaces m n with
  | none => v
  | some l => gatherBits fun j => bit v (l.getD j 0).val

/-- The word with its bits at the host's places. -/
def unplaceBits (m : RegMap) (n : Nat) (v : Word) : Word :=
  match mappedPlaces m n with
  | none => v
  | some l => gatherBits fun p => bit v ((l.map Fin.val).idxOf p)

/-- The word with one field replaced. -/
def setField (lo n x : Nat) (v : Word) : Word :=
  gatherBits fun j => if lo ≤ j ∧ j < lo + n then x.testBit (j - lo) else bit v j

/-- The coded fields of register `n`. -/
def codedFields (m : RegMap) (n : Nat) : List FieldCodes := m.codes.filter fun c => decide (c.register.val = n)

/-- The word with the default codes for the host's in the fields `l`. -/
def codeFields (l : List FieldCodes) (v : Word) : Word :=
  l.foldl (fun v c => setField c.low.val c.width.val (c.codes.getD (field v c.low.val c.width.val) 0) v) v

/-- The word with the host's codes for the default ones in the fields `l`. -/
def uncodeFields (l : List FieldCodes) (v : Word) : Word :=
  l.foldr (fun c v => setField c.low.val c.width.val (c.codes.idxOf (field v c.low.val c.width.val)) v) v

/-- The host's word of register `n` in the default layout and codes. -/
def fromHostBits (m : RegMap) (n : Nat) (v : Word) : Word := codeFields (codedFields m n) (placeBits m n v)

/-- A word of register `n` in the host's layout and codes. -/
def toHostBits (m : RegMap) (n : Nat) (v : Word) : Word := unplaceBits m n (uncodeFields (codedFields m n) v)

/-- The default chip-select of a host's chip-select (R21, R102). -/
def mappedChips (m : RegMap) (chips : BitVec 4) : BitVec 4 := m.chips.getD chips.toNat 0

/-- A register operation with the index, the chip-select and the data word of the default map: `REGMAP` acts on the
effective index (R137) where the host's word enters. -/
def mapCycle (s : State) (c : BusCycle) : BusCycle :=
  match s.config.regMap with
  | none => c
  | some m =>
    match c with
    | .regWr offset value =>
      let n := mappedRegister m (effectiveIndex s offset)
      .regWr (regOffset (BitVec.ofNat 8 n) (mappedChips m (offset.extractLsb' 8 4))) (fromHostBits m n value)
    | .regRd offset =>
      .regRd (regOffset (BitVec.ofNat 8 (mappedRegister m (effectiveIndex s offset)))
        (mappedChips m (offset.extractLsb' 8 4)))
    | c => c

/-! ## Access rights (R30, R31) -/

/-- The access classes of R30's "acc" column. -/
inductive AccessClass where
  | none
  | r
  | w
  | rw
  | rwInit
  | stored
deriving DecidableEq, Repr

/-- A run of indices with one class; `v2` where only V2 has them. -/
structure AccessRow where
  first : Nat
  last : Nat
  access : AccessClass
  v2 : Bool
deriving DecidableEq, Repr

/-- R30, its "acc" and "Var" columns. -/
def accessRows : List AccessRow :=
  [{ first := 0x00, last := 0x00, access := .r, v2 := false },
   { first := 0x01, last := 0x01, access := .rw, v2 := true },
   { first := 0x02, last := 0x20, access := .w, v2 := false },
   { first := 0x21, last := 0x21, access := .none, v2 := false },
   { first := 0x22, last := 0x40, access := .w, v2 := false },
   { first := 0x41, last := 0x47, access := .rw, v2 := false },
   { first := 0x48, last := 0x4D, access := .w, v2 := false },
   { first := 0x4E, last := 0x4F, access := .w, v2 := true },
   { first := 0x50, last := 0x52, access := .rw, v2 := false },
   { first := 0x53, last := 0x57, access := .r, v2 := false },
   { first := 0x58, last := 0x77, access := .w, v2 := false },
   { first := 0x78, last := 0x7F, access := .stored, v2 := true },
   { first := 0x80, last := 0x80, access := .rwInit, v2 := false },
   { first := 0x81, last := 0x81, access := .r, v2 := false },
   { first := 0x82, last := 0x83, access := .rw, v2 := false },
   { first := 0x84, last := 0x87, access := .rwInit, v2 := false },
   { first := 0x88, last := 0x8C, access := .w, v2 := false },
   { first := 0x8D, last := 0x8F, access := .w, v2 := true },
   { first := 0x90, last := 0x90, access := .r, v2 := true },
   { first := 0x91, last := 0x93, access := .rwInit, v2 := true },
   { first := 0x94, last := 0x95, access := .none, v2 := false },
   { first := 0x96, last := 0x97, access := .r, v2 := true },
   { first := 0x98, last := 0xA9, access := .w, v2 := true },
   { first := 0xAA, last := 0xBF, access := .stored, v2 := true },
   { first := 0xC0, last := 0xE0, access := .w, v2 := false },
   { first := 0xE1, last := 0xFF, access := .none, v2 := false }]

/-- The four flags of an index (R31): bit 0 readable, 1 writable, 2 pipelined, 3 FIFO-routed. -/
def AccessClass.flags : AccessClass → BitVec 4
  | .none => 0b0000
  | .r => 0b0001
  | .w => 0b1110
  | .rw => 0b1111
  | .rwInit => 0b0011
  | .stored => 0b0010

/-- The default `ACCESS[VARIANT][index]` (R31). A V2 register is reserved under V1. -/
def defaultAccess (v : Variant) (index : Nat) : BitVec 4 :=
  match accessRows.find? fun row => decide (row.first ≤ index) && decide (index ≤ row.last) with
  | some row => if row.v2 && decide (v = .v1) then 0 else row.access.flags
  | none => 0

/-- `ACCESS[VARIANT][index]` (R31, D6): the default table or the one RESET supplied. -/
def accessFlags (c : Config) (index : Nat) : BitVec 4 :=
  match c.access with
  | none => defaultAccess c.variant index
  | some t => t.read index

/-- `R ∈ ACCESS[VARIANT][index]`. -/
def readable (c : Config) (index : Nat) : Bool := bit (accessFlags c index) 0

/-- `W ∈ ACCESS[VARIANT][index]`. -/
def writable (c : Config) (index : Nat) : Bool := bit (accessFlags c index) 1

/-! ## The host's side of a step -/

/-- A write that a supplied `ACCESS` grants at a reserved index (R31), told from the writes that are dropped
there (DEDUCED: notes/assumptions/22.md). -/
def grantCycle (s : State) (c : BusCycle) : BusCycle :=
  match c with
  | .regWr offset value =>
    if reservedIndex (field offset 0 8) && writable s.config (field offset 0 8) then .grantedWr offset value
    else .regWr offset value
  | c => c

/-- The host's operation as the machine decodes it. -/
def hostCycle (s : State) (c : BusCycle) : BusCycle := grantCycle s (mapCycle s c)

/-- The read of fbiInit2 answers the DAC's byte (R24, R160). -/
def readsDac (s : State) (index : Nat) : Bool :=
  decide (index = Reg.fbiInit2) && bit s.initEnable s.config.constants.dacReadBit.val

/-- What a register read returns, in the host's layout: `REGMAP` acts where the word leaves. The sentinel of a
read without R (R139, R409) and the DAC's byte (R160) are no register's word and stay as they are. -/
def hostAnswer (s : State) (c : BusCycle) (o : Answer) : Answer :=
  match s.config.regMap, c with
  | some m, .regRd offset =>
    let n := mappedRegister m (effectiveIndex s offset)
    if readable s.config n && !readsDac s n then
      andThen o fun t => .next { t with result := t.result.map (toHostBits m n) }
    else o
  | _, _ => o

/-! ## The indices with a gate or a bank of their own -/

/-- fbiInit0–fbiInit7, the init-gated registers (R134). -/
def isFbiInit (index : Nat) : Bool :=
  decide (index = 0x80) || (decide (0x84 ≤ index) && decide (index ≤ 0x87)) ||
    (decide (0x91 ≤ index) && decide (index ≤ 0x93))

/-- The registers whose bank in R30 is the texture banks alone. -/
def textureOnly (index : Nat) : Bool :=
  [0x0D, 0x0E, 0x15, 0x16, 0x1D, 0x1E, 0x2D, 0x2E, 0x35, 0x36, 0x3D, 0x3E].contains index ||
    (decide (0xC0 ≤ index) && decide (index ≤ 0xE0))

/-! ## Float-encoded registers (R148) -/

/-- `float_to_fixed(data, fixedbits, W)`. -/
def floatToFixed (w fixedbits : Nat) (data : Word) : BitVec w :=
  let e : Int := (field data 23 8 : Int) - 127 - 23 + fixedbits
  let m := field data 0 23 + 0x800000
  let r : BitVec w :=
    if e < 0 then (if -(w : Int) < e then BitVec.ofNat w (m >>> (-e).toNat) else 0)
    else if e < w then BitVec.ofNat w (m <<< e.toNat)
    else BitVec.ofNat w (2 ^ (w - 1) - 1)
  if bit data 31 then -r else r

/-- `f32(n)`: the binary32 pattern of an integer below 2^24 (R147). -/
def floatOfNat (n : Nat) : Word :=
  if n = 0 then 0
  else BitVec.ofNat 32 ((127 + Nat.log2 n) * 2 ^ 23 + (n * 2 ^ (23 - Nat.log2 n) - 2 ^ 23))

/-! ## Packed colours (R12) -/

/-- Four colour channels; between stages they may leave the range of a byte. -/
structure Argb where
  a : Int
  r : Int
  g : Int
  b : Int
deriving DecidableEq, Repr

/-- The lanes of a packed word. -/
def Argb.unpack (v : Word) : Argb :=
  { a := Argb.alpha v, r := Argb.red v, g := Argb.green v, b := Argb.blue v }

/-- `a<<24 | r<<16 | g<<8 | b`, each channel taken modulo 256. -/
def packArgb (a r g b : Nat) : Word :=
  (BitVec.ofNat 8 a ++ BitVec.ofNat 8 r ++ BitVec.ofNat 8 g ++ BitVec.ofNat 8 b : BitVec 32)

/-- The packed word of channels in 0..255. -/
def Argb.pack (c : Argb) : Word := packArgb c.a.toNat c.r.toNat c.g.toNat c.b.toNat

/-- `x4to8`, `x5to8`, `x6to8` (R186), the last two also R365's `x5`, `x6`. -/
def x4to8 (e : Expansions) (n : Nat) : Nat := n * e.four
def x5to8 (e : Expansions) (n : Nat) : Nat := n <<< e.fiveUp ||| n >>> e.fiveDown
def x6to8 (e : Expansions) (n : Nat) : Nat := n <<< e.sixUp ||| n >>> e.sixDown

/-! ## LFB operands (R104, R360–R365) -/

/-- A pixel position. -/
structure Position where
  x : Nat
  y : Nat
deriving DecidableEq, Repr

/-- The 16-bit form: two pixels a word, and every read (R104). -/
def lfbPairPosition (k : Constants) (offset : Word) : Position :=
  { x := field offset 0 k.offsets.lfbPairX * 2 ^ k.offsets.lfbPairSpan,
    y := field offset k.offsets.lfbPairX k.offsets.lfbPairY }

/-- The 32-bit form: one pixel a word (R104). -/
def lfbSinglePosition (k : Constants) (offset : Word) : Position :=
  { x := field offset 0 k.offsets.lfbSingleX, y := field offset k.offsets.lfbSingleX k.offsets.lfbSingleY }

/-- The data word and its lane mask after swizzle and swap (R360). -/
structure LfbData where
  d : Word
  m : BitVec 4
deriving DecidableEq, Repr

/-- `{m[0], m[1], m[2], m[3]}` (R360). -/
def reverseMask (m : BitVec 4) : BitVec 4 :=
  m.extractLsb' 0 1 ++ m.extractLsb' 1 1 ++ m.extractLsb' 2 1 ++ m.extractLsb' 3 1

/-- R360: the byte swizzle comes before the word swap. -/
def lfbPrepare (mode value : Word) (mask : BitVec 4) : LfbData :=
  let p : LfbData :=
    if LfbMode.byteSwizzleWrites mode then { d := byteReverse value, m := reverseMask mask }
    else { d := value, m := mask }
  if LfbMode.wordSwapWrites mode then
    { d := halfSwap p.d, m := p.m.extractLsb' 0 2 ++ p.m.extractLsb' 2 2 }
  else p

/-- The first half of the data is written (R364). -/
def LfbData.loOn (k : WordParts) (p : LfbData) : Bool := decide (p.m.extractLsb' k.maskFirst 2 ≠ 0)

/-- The second half of the data is written (R364). -/
def LfbData.hiOn (k : WordParts) (p : LfbData) : Bool := decide (p.m.extractLsb' k.maskSecond 2 ≠ 0)

/-- An extracted pixel: what is present (R362, R364) and its scalars (R361, R365). -/
structure LfbPixel where
  hasRgb : Bool
  hasAlpha : Bool
  hasDepth : Bool
  a : Nat
  r : Nat
  g : Nat
  b : Nat
  w : Nat
deriving DecidableEq, Repr

/-- Something of the pixel is present (R364). -/
def LfbPixel.present (p : LfbPixel) : Bool := p.hasRgb || p.hasAlpha || p.hasDepth

/-- Exchange red and blue (R365). -/
def LfbPixel.swapRb (p : LfbPixel) : LfbPixel := { p with r := p.b, b := p.r }

/-- The classes of 16-bit colour of R362. -/
inductive LfbColour16 where
  | rgb565
  | x555
  | argb1555
deriving DecidableEq, Repr

/-- The colour of a 16-bit half `h` for lane order `lanes` (R365); the depth and what the format does not
carry stay as in `p`. -/
def lfbExtract16 (k : Constants) (f : LfbColour16) (lanes : Nat) (h : Half) (p : LfbPixel) : LfbPixel :=
  let p := { p with hasRgb := true }
  let low := lanes / 2 = 1
  let colour := fun (g : Nat → Nat) (bits : Nat) (o : ColourPlaces) (p : LfbPixel) =>
    { p with r := x5to8 k.expand (field h o.r 5), g := g (field h o.g bits), b := x5to8 k.expand (field h o.b 5) }
  let p : LfbPixel :=
    match f with
    | .rgb565 =>
      colour (x6to8 k.expand) 6 k.lanes.rgb565 p
    | _ =>
      colour (x5to8 k.expand) 5 (if low then k.lanes.low15 else k.lanes.high15) p
  let p : LfbPixel :=
    match f with
    | .argb1555 =>
      { p with
        hasAlpha := true,
        a := if bit h (if low then k.lanes.lowAlpha1 else k.lanes.highAlpha1) then k.expand.solid.toNat else 0 }
    | _ => p
  if lanes % 2 = 1 then p.swapRb else p

/-- The colour of a 32-bit word for lane order `lanes` (R365): x888, or 8888 where `withAlpha`. -/
def lfbExtract32 (k : LanePlaces) (withAlpha : Bool) (lanes : Nat) (d : Word) (p : LfbPixel) : LfbPixel :=
  let low := lanes / 2 = 1
  let o := if low then k.low32 else k.high32
  let p : LfbPixel := { p with hasRgb := true, r := field d o.r 8, g := field d o.g 8, b := field d o.b 8 }
  let p : LfbPixel :=
    if withAlpha then { p with hasAlpha := true, a := field d (if low then k.lowAlpha8 else k.highAlpha8) 8 } else p
  if lanes % 2 = 1 then p.swapRb else p

/-- A pixel with nothing present and the default depth and alpha of zaColor (R361). -/
def lfbDefault (k : Constants) (za : Word) : LfbPixel :=
  { hasRgb := false, hasAlpha := false, hasDepth := false, a := ZaColor.alpha k za, r := 0, g := 0, b := 0,
    w := ZaColor.depth k za }

/-- What a data word carries: one pixel at a 32-bit position or two at a 16-bit position (R362, R363). -/
inductive LfbWord where
  | single (p : LfbPixel)
  | pair (p0 p1 : LfbPixel)
deriving DecidableEq, Repr

/-- A pixel whose half of the word is masked off loses everything (R364); its scalars stay decoded. -/
def LfbPixel.keep (on : Bool) (p : LfbPixel) : LfbPixel :=
  if on then p else { p with hasRgb := false, hasAlpha := false, hasDepth := false }

/-- The first half of the data word. -/
def LfbData.lo (k : WordParts) (p : LfbData) : Half := p.d.extractLsb' k.writeFirst 16

/-- The second half of the data word. -/
def LfbData.hi (k : WordParts) (p : LfbData) : Half := p.d.extractLsb' k.writeSecond 16

/-- A pair of 16-bit colours: each half is its own pixel (R362, R364). -/
def lfbColourPair (k : Constants) (f : LfbColour16) (lanes : Nat) (p : LfbData) (za : Word) : LfbWord :=
  .pair ((lfbExtract16 k f lanes (p.lo k.parts) (lfbDefault k za)).keep (p.loOn k.parts))
    ((lfbExtract16 k f lanes (p.hi k.parts) (lfbDefault k za)).keep (p.hiOn k.parts))

/-- Depth in the high half, present when that half is on; a 16-bit colour in the low half (R362, R364). -/
def lfbDepthColour (k : Constants) (f : LfbColour16) (lanes : Nat) (p : LfbData) (za : Word) : LfbWord :=
  .single { (lfbExtract16 k f lanes (p.lo k.parts) (lfbDefault k za)).keep (p.loOn k.parts) with
    hasDepth := (p.hiOn k.parts), w := (p.hi k.parts).toNat }

/-- A pair of depths (R362, R364). -/
def lfbDepthPair (k : Constants) (p : LfbData) (za : Word) : LfbWord :=
  .pair (LfbPixel.keep (p.loOn k.parts) { lfbDefault k za with hasDepth := true, w := (p.lo k.parts).toNat })
    (LfbPixel.keep (p.hiOn k.parts) { lfbDefault k za with hasDepth := true, w := (p.hi k.parts).toNat })

/-- R362 with R364 and R365: what the prepared word holds, or none for a reserved format. -/
def lfbDecode (k : Constants) (mode : Word) (p : LfbData) (za : Word) : Option LfbWord :=
  let lanes := LfbMode.lanes k mode
  match LfbMode.writeFormat k mode with
  | 0 => some (lfbColourPair k .rgb565 lanes p za)
  | 1 => some (lfbColourPair k .x555 lanes p za)
  | 2 => some (lfbColourPair k .argb1555 lanes p za)
  | 4 => some (.single ((lfbExtract32 k.lanes false lanes p.d (lfbDefault k za)).keep (p.loOn k.parts)))
  | 5 => some (.single ((lfbExtract32 k.lanes true lanes p.d (lfbDefault k za)).keep (p.loOn k.parts)))
  | 12 => some (lfbDepthColour k .rgb565 lanes p za)
  | 13 => some (lfbDepthColour k .x555 lanes p za)
  | 14 => some (lfbDepthColour k .argb1555 lanes p za)
  | 15 => some (lfbDepthPair k p za)
  | _ => none

end Sys2Proof.Machine
end

