-- ==== Sys2Proof/Machine/Buffers.lean ====
section
/-! DEFINITION. The frame and buffer manager (46_buffers R380–R388): the layout the fbiInit registers give,
the screen row and the dither that all drawing shares (44 R292, R338, R339), fastfill and swap. -/

namespace Sys2Proof.Machine

open Sys2Proof

/-! ## Layout -/

/-- "if o > fbi.mask then o <- fbi.mask" (R380). -/
def clampOffset (mask : Word) (o : Nat) : Word := if mask.toNat < o then mask else BitVec.ofNat 32 o

/-- The buffer configuration (R380): two colour buffers and aux (0 and the reserved 3), three without aux
(1), three with aux (2). -/
def bufferConfig (s : State) : Nat :=
  let cfg := FbiInit2.enableTripleBuf s.config.constants (s.reg 0 Reg.fbiInit2)
  if s.isV2 && decide (cfg = 0) then FbiInit5.bufferAllocation s.config.constants (s.reg 0 Reg.fbiInit5) else cfg

/-- The number of tiles in a row of pixels (R381). -/
def tileCount (s : State) : Nat :=
  let n := FbiInit1.xVideoTiles s.config.constants (s.reg 0 Reg.fbiInit1)
  if s.isV2 then
    let k := s.config.constants.tiles
    n <<< k.count ||| FbiInit1.xVideoTilesBit5 s.config.constants (s.reg 0 Reg.fbiInit1) <<< k.bit5 |||
      FbiInit6.xVideoTilesBit0 s.config.constants (s.reg 0 Reg.fbiInit6) <<< k.bit0
  else n

/-- The buffer offsets of R380. -/
def layoutBuffers (s : State) (f : Fbi) : Fbi :=
  let pages := FbiInit2.videoBufferOffset s.config.constants (s.reg 0 Reg.fbiInit2) * s.config.pageBytes
  let cfg := bufferConfig s
  let clamped := clampOffset f.mask
  let k := s.config.constants.buffers
  { f with
    rgb0 := some 0, rgb1 := some (clamped (k.second * pages)),
    rgb2 := if cfg = 1 ∨ cfg = 2 then some (clamped (k.third * pages)) else none,
    auxoffs := if cfg = 1 then none else if cfg = 2 then some (clamped (k.auxThree * pages))
      else some (clamped (k.auxTwo * pages)) }

/-- With no third colour buffer an index 2 becomes 0 (R380). -/
def layoutIndices (f : Fbi) : Fbi :=
  match f.rgb2 with
  | some _ => f
  | none => { f with
      frontbuf := if f.frontbuf = 2 then 0 else f.frontbuf,
      backbuf := if f.backbuf = 2 then 0 else f.backbuf }

/-- The tiles, the row pitch and the Y origin (R381). -/
def layoutTiles (s : State) (f : Fbi) : Fbi :=
  { f with
    tileW := BitVec.ofNat 32 s.config.tileW, tileH := BitVec.ofNat 32 s.config.tileH,
    xTiles := BitVec.ofNat 32 (tileCount s),
    rowpixels := BitVec.ofNat 32 (s.config.tileW * tileCount s),
    yorigin := BitVec.ofNat 10 (FbiInit3.yoriginSubtract s.config.constants (s.reg 0 Reg.fbiInit3)) }

/-- The place and capacity of the memory FIFO (R382). -/
def layoutFifo (s : State) (f : Fbi) : Fbi :=
  let init4 := s.reg 0 Reg.fbiInit4
  let start := FbiInit4.fifoStartRow s.config.constants init4
  let stop := min (FbiInit4.fifoStopRow s.config.constants init4) (f.mask.toNat / s.config.pageBytes)
  if start ≤ stop ∧ FbiInit0.enableMemoryFifo (s.reg 0 Reg.fbiInit0) then
    { f with
      fifoBase := BitVec.ofNat 32 (start * s.config.pageBytes),
      fifoWords := BitVec.ofNat 32
        (min ((stop + 1 - start) * s.config.pageBytes / s.config.constants.fifoWordBytes) s.config.fifoMaxWords) }
  else { f with fifoBase := 0, fifoWords := 0 }

/-- The FBI with the layout that the registers of `s` give. -/
def layoutOf (s : State) (f : Fbi) : Fbi :=
  layoutFifo s (layoutTiles s (layoutIndices (layoutBuffers s f)))

/-- `recompute_layout()` (R380). -/
def recomputeLayout (s : State) : State := s.setFbi (layoutOf s s.fbi)

/-- `fbi.rgboffs[i]`. -/
def Fbi.rgb (f : Fbi) (i : Fin 3) : Option Word :=
  if i = 0 then f.rgb0 else if i = 1 then f.rgb1 else f.rgb2

/-! ## Addresses -/

/-- The flip both Y-origin controls make: `(fbi.yorigin - y) & 0x3FF` (R292, R367, R371). -/
def flipY (s : State) (y : Nat) : Nat :=
  (((s.fbi.yorigin.toNat : Int) - y) % 2 ^ s.config.constants.screenYBits).toNat

/-- `screen_y(y)` of triangles, fastfill and pipelined LFB writes (R292). -/
def screenY (s : State) (y : Nat) : Nat :=
  if FbzMode.yOrigin (s.reg 0 Reg.fbzMode) then flipY s y else y

/-- `2*(sy*fbi.rowpixels + x)` (R340, R367, R371, R384). -/
def pixelOffset (f : Fbi) (x sy : Nat) : Nat := 2 * (sy * f.rowpixels.toNat + x)

/-- Store a pixel's word in a buffer; a buffer that is NONE takes none (R340, R384). -/
def bufferWrite (base : Option Word) (x sy : Nat) (v : Half) (s : State) : State :=
  match base with
  | none => s
  | some b => fbWrite16 (b.toNat + pixelOffset s.fbi x sy) v s

/-! ## Dither -/

/-- `DITHER4[y & 3][x & 3]` (R338). -/
def dither4 (k : Constants) (x y : Nat) : Nat := k.dither4.getD (y % 4 * 4 + x % 4) 0

/-- `DITHER2[y & 3][x & 3]` (R338). -/
def dither2 (k : Constants) (x y : Nat) : Nat := k.dither2.getD (y % 4 * 4 + x % 4) 0

/-- The matrix that fbzMode.dither_type selects, at a raster position (R338). -/
def dither (k : Constants) (fbz : Word) (x y : Nat) : Nat :=
  if FbzMode.ditherType fbz then dither2 k x y else dither4 k x y

/-- `(r >> 3) << 11 | (g >> 2) << 5 | (b >> 3)` of bytes. -/
def pack565 (k : Constants) (r g b : Nat) : Half :=
  let e := k.expand
  BitVec.ofNat 16 (((r >>> e.dropFive) % 32) <<< k.pixel.r ||| ((g >>> e.dropSix) % 64) <<< k.pixel.g |||
    ((b >>> e.dropFive) % 32) <<< k.pixel.b)

/-- The dithered value of a 5-bit channel before its last shift by 3 (R339). -/
def ditherRb (k : DitherShifts) (v d : Nat) : Nat :=
  ((v <<< k.rbUp) - (v >>> k.rbOff) + (v >>> k.rbOn) + d) >>> k.rbUp

/-- The dithered value of a 6-bit channel before its last shift by 2 (R339). -/
def ditherG (k : DitherShifts) (v d : Nat) : Nat :=
  ((v <<< k.gUp) - (v >>> k.gOff) + (v >>> k.gOn) + d) >>> k.gUp

/-- `dither565(r, g, b, x, y)` (R339): the plain 5-6-5 word where dithering is off. -/
def dither565 (k : Constants) (fbz : Word) (r g b x y : Nat) : Half :=
  if FbzMode.enableDithering fbz then
    let d := dither k fbz x y
    pack565 k (ditherRb k.ditherShifts r d) (ditherG k.ditherShifts g d) (ditherRb k.ditherShifts b d)
  else pack565 k r g b

/-! ## Fastfill (R384) -/

/-- The colour buffer fbzMode.draw_buffer names, NONE for the reserved codes (R340, R384). -/
def drawBase (s : State) : Option Word :=
  match FbzMode.drawBuffer s.config.constants (s.reg 0 Reg.fbzMode) with
  | 0 => s.fbi.rgb s.fbi.frontbuf
  | 1 => s.fbi.rgb s.fbi.backbuf
  | _ => none

/-- What fastfill gives the aux buffer: `zaColor[15:0]` whatever enable_alpha_planes says (R384). R47 gives an
alpha plane zaColor[31:24] instead, which a RESET may choose (DEDUCED: notes/assumptions/41.md). -/
def fillAux (s : State) : Half :=
  let za := s.reg 0 Reg.zaColor
  if s.config.constants.fillAlphaPlane && FbzMode.enableAlphaPlanes (s.reg 0 Reg.fbzMode) then
    BitVec.ofNat 16 (ZaColor.alpha s.config.constants za)
  else BitVec.ofNat 16 (ZaColor.depth s.config.constants za)

/-- One pixel of the rectangle. -/
def fillPixel (x y : Nat) (s : State) : State :=
  let fbz := s.reg 0 Reg.fbzMode
  let c := s.reg 0 Reg.color1
  let sy := screenY s y
  let s :=
    if FbzMode.rgbBufferMask fbz then
      bufferWrite (drawBase s) x sy
        (dither565 s.config.constants fbz (Argb.red c) (Argb.green c) (Argb.blue c) x y) s
    else s
  if FbzMode.auxBufferMask fbz then
    bufferWrite s.fbi.auxoffs x sy (fillAux s) s
  else s

/-- `k i`, `k (i + 1)`, …, `n` of them, on the state. -/
def repeatFrom (n i : Nat) (k : Nat → State → State) (s : State) : State :=
  match n with
  | 0 => s
  | n + 1 => repeatFrom n (i + 1) k (k i s)

/-- One row: its pixels, left to right, and their count where colour is on. -/
def fillRow (sx n : Nat) (rgbOn : Bool) (y : Nat) (s : State) : State :=
  let s := repeatFrom n sx (fun x => fillPixel x y) s
  if rgbOn then s.setStats (s.stats.add .pixelsOut (BitVec.ofNat 32 n)) else s

/-- `fastfill()` (R384), the rectangle [sx, ex) × [sy0, ey) of D40; a reversed one is empty (DEDUCED, unsafe:
notes/assumptions/29.md). -/
def fastfill (s : State) : State :=
  let fbz := s.reg 0 Reg.fbzMode
  let cx := s.reg 0 Reg.clipLeftRight
  let cy := s.reg 0 Reg.clipLowYHighY
  let k := s.config.constants
  if !FbzMode.rgbBufferMask fbz && !FbzMode.auxBufferMask fbz then s
  else
    let rgbOn := FbzMode.rgbBufferMask fbz && decide (FbzMode.drawBuffer k fbz < 2)
    foldStats (repeatFrom (ClipY.highY k cy - ClipY.lowY k cy) (ClipY.lowY k cy)
      (fillRow (ClipX.left k cx) (ClipX.right k cx - ClipX.left k cx) rgbOn) s)

/-! ## Swap (R386, R387) -/

/-- `record_history()` (R387). -/
def recordHistory (s : State) : State :=
  let n := s.config.constants.historyBits
  s.setReg 0 Reg.fbiSwapHistory
    (s.reg 0 Reg.fbiSwapHistory <<< n ||| BitVec.ofNat 32 (min s.fbi.swapCount.toNat (2 ^ n - 1)))

/-- The "don't swap" bit of the command word, which only V2 has (R386, D28). -/
def noSwap (value : Word) (s : State) : Bool :=
  s.isV2 && (match s.config.swapNoswapBit with
    | some i => bit value i.val
    | none => false)

/-- Exchange the two buffers, or rotate the three. -/
def rotateBuffers (f : Fbi) : Fbi :=
  match f.rgb2 with
  | none => { f with frontbuf := if f.frontbuf = 0 then 1 else 0, backbuf := if f.frontbuf = 0 then 0 else 1 }
  | some _ => { f with frontbuf := f.frontbuf + 1, backbuf := f.frontbuf + 1 + 1 }

/-- `swap_buffers(value)` (R386): it takes effect at once (D28). -/
def swapBuffers (value : Word) (s : State) : State :=
  let s := recordHistory s
  let f := if noSwap value s then s.fbi else rotateBuffers s.fbi
  s.setFbi { f with swapCount := 0 }

end Sys2Proof.Machine
end

