-- ==== Sys2Proof/Machine/Reciprocal.lean ====
section
/-! DEFINITION. The fast reciprocal and log2 (44 R345, R346). `n` is RECIP_LOOKUP_BITS: R345 and R346 are written
for 9, and another size reads as many index bits below the leading 1 and 8 fraction bits below those
(DEDUCED, unsafe for a size other than 9: notes/assumptions/4.md). -/

namespace Sys2Proof.Machine

open Sys2Proof

/-- `RECIP[k]` (R346): the reciprocal of `(2^n + k) / 2^n`, with `bits` fraction bits. -/
def recipEntry (bits n k : Nat) : Nat := 2 ^ (bits + n) / (2 ^ n + k)

/-- `n` more fraction bits of log2 of `y / 2^120`, a number in [1, 2), after the bits `acc`: squaring
doubles the logarithm, and a square of 2 or more gives a 1 bit. -/
def logBits (n y acc : Nat) : Nat :=
  match n with
  | 0 => acc
  | n + 1 =>
    let y := (y * y) >>> 120
    if 2 ^ 121 ≤ y then logBits n (y >>> 1) (2 * acc + 1) else logBits n y (2 * acc)

/-- `LOG[k] = floor(log2((2^n + k) / 2^n) * 2^bits)` (R346) for k in 0..2^n, by `bits` squarings with 120
fraction bits (DEDUCED, safe for the 22 of R346: notes/assumptions/17.md). -/
def logEntry (bits n k : Nat) : Nat := if 2 ^ n ≤ k then 2 ^ bits else logBits bits ((2 ^ n + k) <<< (120 - n)) 0

/-- The pair `fast_reciplog` returns: the 16.15 reciprocal (s64) and the x.8 logarithm (s32). -/
structure RecipLog where
  recip : DWord
  log : Int
deriving DecidableEq, Repr

/-- Linear interpolation between two table entries, `f` of `bits` fraction bits (R345). -/
def tableLerp (bits a b f : Nat) : Nat := (a * (2 ^ bits - f) + b * f) >>> bits

/-- `fast_reciplog(v)` (R345). -/
def fastRecipLog (c : Config) (v : DWord) : RecipLog :=
  let n := c.recipLookupBits.val
  let p := c.constants.recip
  let neg := bit v 63
  let m := if neg then -v else v
  let high := decide (field m 32 16 ≠ 0)
  let t := if high then field m 16 32 else field m 0 32
  if t = 0 then
    let r := c.constants.zeroRecip
    { recip := BitVec.ofInt 64 (if neg then -r - 1 else r), log := c.constants.zeroLog }
  else
    let lz := clz32 t
    let t := (t <<< lz) % 2 ^ 32
    let e : Int := (if high then -16 else 0) + lz
    let k := (t >>> (31 - n)) % 2 ^ n
    let f := (t >>> (31 - n - p.lerp)) % 2 ^ p.lerp
    let rl := tableLerp p.lerp (logEntry p.entry n k) (logEntry p.entry n (k + 1)) f
    let rc := tableLerp p.lerp (recipEntry p.entry n k) (recipEntry p.entry n (k + 1)) f
    let rl := (rl + 2 ^ p.logRound) >>> p.logShift
    let log := (e + p.logBias) * 2 ^ c.constants.lodFrac - rl
    let e := e - p.bias
    let rc := if e < 0 then rc >>> (-e).toNat else (rc <<< e.toNat) % 2 ^ 32
    { recip := if neg then -(BitVec.ofNat 64 rc) else BitVec.ofNat 64 rc, log := log }

end Sys2Proof.Machine
end

