-- ==== Sys2Proof/Machine/Texture.lean ====
section
/-! DEFINITION. The texture units (41_texture_unit): the derived tables and their lazy recompute, the NCC
tables and palettes, texture upload, and the sampler. A refusal here is one of R403. -/

namespace Sys2Proof.Machine

open Sys2Proof

/-! ## Derived tables (R181–R188) -/

/-- The mip levels present (R182). -/
def lodMaskOf (tlod : Word) : BitVec 9 :=
  if !TLod.tsplit tlod then 0x1FF else if !TLod.odd tlod then 0x155 else 0x0AA

/-- The LOD-0 width minus 1 (R183). -/
def widthMaskOf (k : Constants) (tlod : Word) : Byte :=
  if TLod.sIsWider tlod then k.lodZeroMask else k.lodZeroMask >>> TLod.aspect k tlod

/-- The LOD-0 height minus 1 (R183). -/
def heightMaskOf (k : Constants) (tlod : Word) : Byte :=
  if TLod.sIsWider tlod then k.lodZeroMask >>> TLod.aspect k tlod else k.lodZeroMask

/-- The texels of mip level `lod` (R184): at least `LOD_MIN_SIZE` from level 3 on. -/
def levelSize (c : Config) (wmask hmask : Byte) (lod : Nat) : Nat :=
  let size := ((wmask.toNat >>> lod) + 1) * ((hmask.toNat >>> lod) + 1)
  if c.constants.lodMinFrom ≤ lod ∧ size < c.lodMinSize then c.lodMinSize else size

/-- The byte offset of level `lod` before the RAM mask (R184): the base and the levels below it that are
present. -/
def levelBase (c : Config) (bppShift base : Nat) (lodmask : BitVec 9) (wmask hmask : Byte) : Nat → Nat
  | 0 => base
  | lod + 1 =>
    levelBase c bppShift base lodmask wmask hmask lod +
      (if bit lodmask lod then levelSize c wmask hmask lod <<< bppShift else 0)

/-- The "16 pointers" (R185, R187). -/
def lookupTables (v2 nccSelect : Bool) : List Lookup :=
  let ncc : Lookup := if nccSelect then .ncc1 else .ncc0
  [.rgb332, ncc, .alpha8, .int8, .ai44, .palette, (if v2 then .palettea else .none), .none,
   .rgb332, ncc, .rgb565, .argb1555, .argb4444, .int8, .palette, .none]

/-- A bias field of a unit in x.8 (R181, R188). -/
def biasWord (b : BiasSteps) (n : Nat) : Word := BitVec.ofInt 32 (sext b.width (n <<< b.align) * 2 ^ b.shift)

/-- `recompute(u)` from the unit's four registers (R181–R188); it clears `regdirty` (R180). -/
def recomputeFrom (c : Config) (mode tlod tdetail base : Word) (t : Tmu) : Tmu :=
  let k := c.constants
  let lodmask := lodMaskOf tlod
  let wmask := widthMaskOf k tlod
  let hmask := heightMaskOf k tlod
  let level := levelBase c (TexMode.format k mode >>> 3)
    ((base.toNat &&& k.texBaseMask) <<< k.texBaseShift) lodmask wmask hmask
  let texel := lookupTables (decide (c.variant = .v2)) (TexMode.nccSelect mode)
  { t with
    lodmin := BitVec.ofNat 32 (TLod.lodmin k tlod <<< k.lodShift),
    lodmax := BitVec.ofNat 32 (TLod.lodmax k tlod <<< k.lodShift),
    lodbias := biasWord k.lodBias (TLod.lodbias k tlod),
    lodmask := lodmask, wmask := wmask, hmask := hmask,
    lodoffset := Memory.tabulate 9 fun lod => BitVec.ofNat 32 (level lod &&& t.mask.toNat),
    detailmax := BitVec.ofNat 32 (TDetail.max k tdetail),
    detailbias := biasWord k.detailBias (TDetail.bias k tdetail),
    detailscale := BitVec.ofNat 32 (TDetail.scale k tdetail),
    texel := texel, lookup := texel.getD (TexMode.format k mode) .none, regdirty := false }

/-- `recompute(u)` of unit `u`. -/
def recomputeUnit (u : Nat) (s : State) : State :=
  s.setTmu u (recomputeFrom s.config (s.texReg u Reg.textureMode) (s.texReg u Reg.tLOD)
    (s.texReg u Reg.tDetail) (s.texReg u Reg.texBaseAddr) (s.tmu u))

/-- "if tmu[u].regdirty then recompute(u)" (R180), before a fetch and before an upload. -/
def freshUnit (u : Nat) (s : State) : State := if (s.tmu u).regdirty then recomputeUnit u s else s

/-! ## NCC tables and palettes (R189–R191) -/

/-- A channel of an NCC entry (R189). -/
def nccChannel (y : Byte) (i q : BitVec 9) : Nat := (clampInt ((y.toNat : Int) + i.toInt + q.toInt) 0 255).toNat

/-- Entry `k` of the 256 (R189). -/
def nccEntry (c : Constants) (n : Ncc) (k : Nat) : Word :=
  let y := n.y.read ((k >>> c.tables.entryY) % 16)
  let i := (k >>> c.tables.entryI) % 4
  let q := (k >>> c.tables.entryQ) % 4
  packArgb c.expand.solid.toNat (nccChannel y (n.ir.read i) (n.qr.read q)) (nccChannel y (n.ig.read i) (n.qg.read q))
    (nccChannel y (n.ib.read i) (n.qb.read q))

/-- The rebuild of the 256 entries, where they are dirty (R189). -/
def freshNcc (c : Constants) (n : Ncc) : Ncc :=
  if n.dirty then { n with texel := Memory.tabulate 256 (nccEntry c n), dirty := false } else n

/-- The four luma bytes of register `n < 4` (R190). -/
def nccLuma (k : TableFields) (n : Nat) (data : Word) (t : Ncc) : Ncc :=
  let luma := fun b => data.extractLsb' (k.luma * b) 8
  { t with
    y := (((t.y.write (4 * n) (luma 0)).write (4 * n + 1) (luma 1)).write (4 * n + 2) (luma 2)).write (4 * n + 3)
      (luma 3),
    dirty := true }

/-- The I coefficients of register `4 + j` (R190). -/
def nccI (k : TableFields) (j : Nat) (data : Word) (t : Ncc) : Ncc :=
  { t with
    ir := t.ir.write j (data.extractLsb' k.nccRed 9), ig := t.ig.write j (data.extractLsb' k.nccGreen 9),
    ib := t.ib.write j (data.extractLsb' k.nccBlue 9), dirty := true }

/-- The Q coefficients of register `8 + j` (R190). -/
def nccQ (k : TableFields) (j : Nat) (data : Word) (t : Ncc) : Ncc :=
  { t with
    qr := t.qr.write j (data.extractLsb' k.nccRed 9), qg := t.qg.write j (data.extractLsb' k.nccGreen 9),
    qb := t.qb.write j (data.extractLsb' k.nccBlue 9), dirty := true }

/-- A coefficient write to one table (R190). -/
def nccCoefficient (k : TableFields) (n : Nat) (data : Word) (t : Ncc) : Ncc :=
  if n < 4 then nccLuma k n data t else if n < 8 then nccI k (n - 4) data t else nccQ k (n - 8) data t

/-- `redirect_palette` of an NCC register (R158, R190, D43). -/
def redirectsPalette (n : Nat) (data : Word) : Bool := decide (4 ≤ n) && bit data 31

/-- `palette_write(tmu, n, data)` (R191). -/
def paletteWrite (c : Constants) (v2 : Bool) (n : Nat) (data : Word) (t : Tmu) : Tmu :=
  let k := c.tables
  let i := (field data k.index k.indexBits <<< k.indexUp ||| n % 2 ^ k.indexUp) % 256
  let colour : Word := c.expand.solid ++ BitVec.ofNat 24 (field data k.colour k.colourBits)
  let t := { t with palette := t.palette.write i colour }
  if v2 then
    let six := fun low => x6to8 c.expand (field data low k.channelBits)
    let argb := packArgb (six k.alpha) (six k.red) (six k.green) (six k.blue)
    { t with palettea := t.palettea.write i argb }
  else t

/-- `ncc_write(tmu, table, n, data)` (R190). -/
def nccWrite (k : Constants) (v2 : Bool) (table : Fin 2) (n : Nat) (data : Word) (t : Tmu) : Tmu :=
  if redirectsPalette n data then paletteWrite k v2 n data t
  else if table = 0 then { t with ncc0 := nccCoefficient k.tables n data t.ncc0 }
  else { t with ncc1 := nccCoefficient k.tables n data t.ncc1 }

/-! ## Lookup and fetch (R185, R186, R198–R200) -/

/-- The static tables and the unit's own: the packed ARGB word of index `v`. -/
def lookupWord (c : Constants) (t : Tmu) (l : Lookup) (v : Nat) : Word :=
  let e := c.expand
  let o := c.texels
  match l with
  | .none => 0
  | .rgb332 =>
    let r := (v >>> o.rgb332.r) % 8
    let g := (v >>> o.rgb332.g) % 8
    let three := fun (n : Nat) => n <<< e.threeUp ||| n <<< e.threeMid ||| n >>> e.threeDown
    packArgb e.solid.toNat (three r) (three g) ((v >>> o.rgb332.b) % 4 * e.two)
  | .ncc0 => t.ncc0.texel.read v
  | .ncc1 => t.ncc1.texel.read v
  | .alpha8 => packArgb v v v v
  | .int8 => packArgb e.solid.toNat v v v
  | .ai44 =>
    let i := x4to8 e ((v >>> o.intensityAi) % 16)
    packArgb (x4to8 e ((v >>> o.alphaAi) % 16)) i i i
  | .palette => t.palette.read v
  | .palettea => t.palettea.read v
  | .rgb565 =>
    packArgb e.solid.toNat (x5to8 e ((v >>> o.rgb565.r) % 32)) (x6to8 e ((v >>> o.rgb565.g) % 64))
      (x5to8 e ((v >>> o.rgb565.b) % 32))
  | .argb1555 =>
    let five := fun place => x5to8 e ((v >>> place) % 32)
    packArgb (if (v >>> o.alpha1) % 2 = 1 then e.solid.toNat else 0) (five o.argb1555.r) (five o.argb1555.g)
      (five o.argb1555.b)
  | .argb4444 =>
    let four := fun place => x4to8 e ((v >>> place) % 16)
    packArgb (four o.alpha4) (four o.argb4444.r) (four o.argb4444.g) (four o.argb4444.b)

/-- `fetch(u, texbase, i)` for texture format `f` (R198). -/
def fetch (c : Constants) (t : Tmu) (f texbase i : Nat) : Word :=
  if f < 8 then lookupWord c t t.lookup (texRead8 t (texbase + i)).toNat
  else
    let v := texRead16 t (texbase + 2 * i)
    if 10 ≤ f ∧ f ≤ 12 then lookupWord c t t.lookup v.toNat
    else (v.extractLsb' c.texels.alphaByte 8 ++ (lookupWord c t t.lookup (field v c.texels.indexByte 8)).extractLsb' 0 24 :
      BitVec 32)

/-- `lerp2` of R199: two 8-bit lanes in one u32, `f` of `bits` fraction bits. -/
def lerp2 (bits : Nat) (a b : Word) (f : Nat) : Word :=
  (a &&& 0x00FF00FF) + (((b &&& 0x00FF00FF) - (a &&& 0x00FF00FF)) * BitVec.ofNat 32 f) >>> bits

/-- `bilinear(c00, c01, c10, c11, fs, ft)` (R199). -/
def bilinear (bits : Nat) (c00 c01 c10 c11 : Word) (fs ft : Nat) : Word :=
  let rb0 := lerp2 bits c00 c01 fs
  let rb1 := lerp2 bits c10 c11 fs
  let ag0 := lerp2 bits (c00 >>> 8) (c01 >>> 8) fs
  let ag1 := lerp2 bits (c10 >>> 8) (c11 >>> 8) fs
  ((lerp2 bits ag0 ag1 ft <<< 8) &&& 0xFF00FF00) ||| (lerp2 bits rb0 rb1 ft &&& 0x00FF00FF)

/-! ## Sampling (R194–R197) -/

/-- S and T (14.18) and the LOD of a pixel: what `texcoord` returns. -/
structure TexCoord where
  s : Int
  t : Int
  lod : Int
  ilod : Nat
deriving DecidableEq, Repr

/-- `as_s32(x mod 2^32)`. -/
def wrap32 (x : Int) : Int := (BitVec.ofInt 32 x).toInt

/-- The clamped LOD of a pixel (R194): the bias, the LOD dither, the two limits. -/
def clampLod (c : Constants) (t : Tmu) (mode : Word) (x y : Nat) (lod : Int) : Int :=
  let lod := lod + t.lodbias.toInt
  let lod := if TexMode.lodDither mode then lod + (dither4 c x y <<< c.lodDitherShift : Nat) else lod
  clampInt lod t.lodmin.toInt t.lodmax.toInt

/-- The mip level of a LOD with `frac` fraction bits (R194): the next one where its own is not present. -/
def levelOf (frac : Nat) (t : Tmu) (lod : Int) : Nat :=
  let ilod := (lod / 2 ^ frac).toNat
  if bit t.lodmask ilod then ilod else ilod + 1

/-- `texcoord(u, px, py, it)` (R194); a level above 8 is refused by the caller. -/
def texcoord (c : Config) (t : Tmu) (mode : Word) (x y : Nat) (its itt itw : DWord) (lodbase : Int) : TexCoord :=
  let r := fastRecipLog c itw
  let persp := TexMode.perspective mode
  let k := c.constants.tex
  let coordinate := fun (v : DWord) =>
    wrap32 (if persp then r.recip.toInt * v.toInt / 2 ^ k.perspective else v.toInt / 2 ^ k.affine)
  let zero := TexMode.clampNegW mode && bit itw 63
  let lod := clampLod c.constants t mode x y (if persp then lodbase + r.log else lodbase)
  { s := if zero then 0 else coordinate its, t := if zero then 0 else coordinate itt, lod := lod,
    ilod := levelOf c.constants.lodFrac t lod }

/-- A texel coordinate on one axis: clamped where the mode says so, then wrapped (R196, R197). -/
def texelAxis (clamped : Bool) (max : Nat) (v : Int) : Nat :=
  ((if clamped then clampInt v 0 max else v) % 2 ^ 8).toNat &&& max

/-- The point sample (R196). -/
def pointSample (c : Config) (t : Tmu) (mode : Word) (k : TexCoord) : Word :=
  let smax := t.wmask.toNat >>> k.ilod
  let tmax := t.hmask.toNat >>> k.ilod
  let s := texelAxis (TexMode.clampS mode) smax (k.s / 2 ^ (k.ilod + c.constants.tex.point))
  let t' := texelAxis (TexMode.clampT mode) tmax (k.t / 2 ^ (k.ilod + c.constants.tex.point))
  fetch c.constants t (TexMode.format c.constants mode) (t.lodoffset.read k.ilod).toNat (t' * (smax + 1) + s)

/-- The fraction of a coordinate with `bits` fraction bits, under `BILINEAR_MASK` (R197). -/
def bilinearFraction (bits : Nat) (mask : Byte) (v : Int) : Nat := (v % 2 ^ bits).toNat &&& mask.toNat

/-- The bilinear sample (R197). -/
def bilinearSample (c : Config) (t : Tmu) (mode : Word) (k : TexCoord) : Word :=
  let smax := t.wmask.toNat >>> k.ilod
  let tmax := t.hmask.toNat >>> k.ilod
  let bits := c.constants.tex.fraction
  let s := k.s / 2 ^ (k.ilod + c.constants.tex.bilinear) - c.constants.bilinearCentre
  let t' := k.t / 2 ^ (k.ilod + c.constants.tex.bilinear) - c.constants.bilinearCentre
  let s0 := texelAxis (TexMode.clampS mode) smax (s / 2 ^ bits)
  let s1 := texelAxis (TexMode.clampS mode) smax (s / 2 ^ bits + 1)
  let t0 := texelAxis (TexMode.clampT mode) tmax (t' / 2 ^ bits)
  let t1 := texelAxis (TexMode.clampT mode) tmax (t' / 2 ^ bits + 1)
  let texel := fun y x =>
    fetch c.constants t (TexMode.format c.constants mode) (t.lodoffset.read k.ilod).toNat (y * (smax + 1) + x)
  bilinear bits (texel t0 s0) (texel t0 s1) (texel t1 s0) (texel t1 s1)
    (bilinearFraction bits c.bilinearMask s) (bilinearFraction bits c.bilinearMask t')

/-- The choice of R195. -/
def pointSampled (t : Tmu) (mode : Word) (lod : Int) : Bool :=
  if lod = t.lodmin.toInt then !TexMode.magFilter mode else !TexMode.minFilter mode

/-- `c_local` of R306: the point or bilinear sample. -/
def sample (c : Config) (t : Tmu) (mode : Word) (k : TexCoord) : Word :=
  if pointSampled t mode k.lod then pointSample c t mode k else bilinearSample c t mode k

/-- The unit with the NCC table its format uses rebuilt (R189): formats 1 and 9 use the selected table. -/
def freshTables (c : Constants) (mode : Word) (t : Tmu) : Tmu :=
  if TexMode.format c mode = 1 ∨ TexMode.format c mode = 9 then
    if TexMode.nccSelect mode then { t with ncc1 := freshNcc c t.ncc1 } else { t with ncc0 := freshNcc c t.ncc0 }
  else t

/-- What stands in the way of a fetch: a level above 8, then a format with no lookup (R403). -/
def fetchRefusal (t : Tmu) (k : TexCoord) : Option Refusal :=
  if 8 < k.ilod then some .lodOutOfRange
  else if t.lookup = .none then some .badTextureFormat
  else none

/-! ## Upload (R192, R193) -/

/-- The data word after the unit's swizzle and swap (R192). -/
def uploadWord (tlod value : Word) : Word :=
  let d := if TLod.dataSwizzle tlod then byteReverse value else value
  if TLod.dataSwap tlod then halfSwap d else d

/-- The byte address of an upload, before the RAM mask (R105, R192). -/
def uploadAddress (k : Constants) (t : Tmu) (format : Nat) (offset : Word) : Nat :=
  let lod := field offset 15 4
  let row := field offset 7 8 * ((t.wmask.toNat >>> lod) + 1)
  let base := (t.lodoffset.read lod).toNat
  if format < 8 then base + row + field offset 0 k.offsets.texColumn8 * 2 ^ k.offsets.texSpan8
  else base + 2 * (row + field offset 0 k.offsets.texColumn16 * 2 ^ k.offsets.texSpan16)

/-- The four bytes of an upload: four 8-bit texels, or two 16-bit ones (R192). -/
def uploadStore (k : Constants) (t : Tmu) (format : Nat) (offset d : Word) : Tmu :=
  let a := uploadAddress k t format offset &&& t.mask.toNat
  if format < 8 then
    let texel := fun i => d.extractLsb' (k.parts.texelByte * i) 8
    texWrite8 (a + 3) (texel 3) (texWrite8 (a + 2) (texel 2) (texWrite8 (a + 1) (texel 1) (texWrite8 a (texel 0) t)))
  else
    let texel := fun i => d.extractLsb' (k.parts.texelHalf * i) 16
    texWrite16 (a + 2) (texel 1) (texWrite16 a (texel 0) t)

/-- `TEX_WR(offset, value)` (R192). A dropped upload answers status 0 and changes nothing (R401;
DEDUCED, safe: notes/assumptions/19.md). -/
def textureUpload (offset value : Word) (s : State) : Answer :=
  let u := field offset 19 2
  if s.config.ntmu.val ≤ u then answer 0 s
  else
    let fresh := freshUnit u s
    let tlod := s.texReg u Reg.tLOD
    if s.isV2 && TLod.directWrite tlod then .refused .directWrite
    else if 8 < field offset 15 4 then answer 0 s
    else
      answer 0 (fresh.setTmu u (uploadStore s.config.constants (fresh.tmu u)
        (TexMode.format s.config.constants (s.texReg u Reg.textureMode)) offset (uploadWord tlod value)))

end Sys2Proof.Machine
end

