-- ==== Sys2Proof/Machine/Pixel.lean ====
section
/-! DEFINITION. The per-pixel pipeline (44_pixel_pipeline R290–R341). A stage is a function; the stages before
the colour (`pixelFront`) and after it (`pixelBack`) are shared with the pipelined LFB write (45_lfb R369). -/

namespace Sys2Proof.Machine

open Sys2Proof

/-! ## Clip and stipple (R292–R294) -/

/-- `clip_pass(x, sy)` (R292). -/
def clipPass (s : State) (x sy : Nat) : Bool :=
  let cx := s.reg 0 Reg.clipLeftRight
  let cy := s.reg 0 Reg.clipLowYHighY
  let k := s.config.constants
  !FbzMode.enableClipping (s.reg 0 Reg.fbzMode) ||
    (decide (ClipX.left k cx ≤ x) && decide (x < ClipX.right k cx) && decide (ClipY.lowY k cy ≤ sy) &&
      decide (sy < ClipY.highY k cy))

/-- The bit of the fixed 8×4 pattern (R294). -/
def stippleBit (k : Constants) (x y : Nat) : Nat :=
  y % 2 ^ k.stippleRows * 2 ^ k.stippleColumns + (2 ^ k.stippleColumns - 1 - x % 2 ^ k.stippleColumns)

/-- The state after the stipple stage: in rotate mode the register has rotated (R293). -/
def stippleRotate (s : State) : State :=
  let fbz := s.reg 0 Reg.fbzMode
  if FbzMode.enableStipple fbz && !FbzMode.stipplePattern fbz then
    s.setReg 0 Reg.stipple ((s.reg 0 Reg.stipple).rotateLeft s.config.constants.stippleStep)
  else s

/-- `stipple_test(x, y)` on the state that `stippleRotate` leaves (R293, R294). -/
def stipplePass (s : State) (x y : Nat) : Bool :=
  let fbz := s.reg 0 Reg.fbzMode
  !FbzMode.enableStipple fbz ||
    (if FbzMode.stipplePattern fbz then bit (s.reg 0 Reg.stipple) (stippleBit s.config.constants x y)
     else bit (s.reg 0 Reg.stipple) s.config.constants.stippleTested.val)

/-! ## Depth (R295, R297–R299) -/

/-- `wrap` of R295, under either variant. R40 gives rgbzw_clamp to V2 alone, which a RESET may choose: V1 then
always wraps (DEDUCED: notes/assumptions/28.md). -/
def wrapIterators (s : State) : Bool :=
  !((s.isV2 || s.config.constants.clampV1) && ColorPath.rgbzwClamp (s.reg 0 Reg.fbzColorPath))

/-- The V2 floating depth from the iterated Z (R297). -/
def floatDepth (k : Constants) (z : Word) : Nat :=
  let f := k.floating
  if field z (32 - f.zShift) f.zShift ≠ 0 then f.near else floatFraction f (z <<< f.zShift).toNat

/-- The unbiased depth of R297. -/
def rawDepth (s : State) (z : Word) (wf : Nat) : Nat :=
  let fbz := s.reg 0 Reg.fbzMode
  if !FbzMode.wbufferSelect fbz then clampedZ s.config.constants (wrapIterators s) z
  else if !FbzMode.depthFloatSelect fbz || !s.isV2 then wf
  else floatDepth s.config.constants z

/-- `depth_value(z, wf)` (R297, R298). -/
def depthValue (s : State) (z : Word) (wf : Nat) : Nat :=
  let k := s.config.constants
  let d := rawDepth s z wf
  if FbzMode.enableDepthBias (s.reg 0 Reg.fbzMode) then
    (clampInt ((d : Int) + sext (fieldBits k.fields.zaColor.depth) (ZaColor.depth k (s.reg 0 Reg.zaColor))) 0 0xFFFF).toNat
  else d

/-- The depth stage's read of the aux buffer: the word and the state after it; none where the stage is off
or there is no aux buffer (R299). -/
def depthRead (s : State) (x sy : Nat) : Option Half × State :=
  if FbzMode.enableDepthbuf (s.reg 0 Reg.fbzMode) then
    match s.fbi.auxoffs with
    | none => (none, s)
    | some b =>
      let r := fbRead16 (b.toNat + pixelOffset s.fbi x sy) s
      (some r.1, r.2)
  else (none, s)

/-- `depth_test` (R299) of depth `dv` against the word `depthRead` found. -/
def depthPass (s : State) (dv : Nat) (old : Option Half) : Bool :=
  let fbz := s.reg 0 Reg.fbzMode
  let src := if FbzMode.depthSourceCompare fbz then ZaColor.depth s.config.constants (s.reg 0 Reg.zaColor) else dv
  !FbzMode.enableDepthbuf fbz ||
    (match old with
     | none => decide (FbzMode.depthFunction s.config.constants fbz ≠ 0)
     | some o => cmp (FbzMode.depthFunction s.config.constants fbz) src o.toNat)

/-! ## The front of the pipeline (R290, stages 1–3) -/

/-- What a pixel that has passed the first three stages carries on. -/
structure Depth where
  sy : Nat
  wf : Nat
  dv : Nat
deriving DecidableEq, Repr

/-- Clip, the pixel count, stipple, depth: none where the pixel ends there (R290–R299). -/
def pixelFront (x y : Nat) (z : Word) (w : DWord) (s : State) : Option Depth × State :=
  let sy := screenY s y
  if !clipPass s x sy then (none, s)
  else
    let s := stippleRotate (count .pixelsIn s)
    if !stipplePass s x y then (none, count .stippleCount s)
    else
      let wf := wfloat s.config.constants w
      let dv := depthValue s z wf
      let old := depthRead s x sy
      if depthPass s dv old.1 then (some { sy := sy, wf := wf, dv := dv }, old.2)
      else (none, count .zfuncFail old.2)

/-! ## The combine unit (R307–R312, R319–R321) -/

/-- A blend factor `f` in 0..255 as it is used: `f xor 0xFF` where reverse_blend is 0 (R310). -/
def blendFactor (reverse : Bool) (f : Int) : Int := if reverse then f else ((f.toNat ^^^ 0xFF : Nat) : Int)

/-- One channel: zero or other, subtract local, multiply, shift, add, clamp, invert. -/
def combineChannel (k : FactorStep) (zero sub reverse invert : Bool) (other loc factor add : Int) : Int :=
  let t := if zero then 0 else other
  let t := if sub then t - loc else t
  let t := t * (blendFactor reverse factor + k.plus) / 2 ^ k.shift
  let t := clampInt (t + add) 0 255
  if invert then 255 - t else t

/-- What add_aclocal adds to a colour channel (R312, R321). -/
def addTerm (code : Nat) (loc localA : Int) : Int :=
  match code with
  | 1 => loc
  | 2 => localA
  | _ => 0

/-- What add_aclocal adds to the alpha channel (R312, R321). -/
def addAlpha (code : Nat) (localA : Int) : Int := if code = 0 then 0 else localA

/-! ## Texture stage (R305–R314) -/

/-- `detail(u, lod)` (R313). -/
def detailFactor (k : Constants) (t : Tmu) (lod : Int) : Int :=
  let b := t.detailbias.toInt
  if b ≤ lod then 0
  else
    let v := (b - lod) * 2 ^ t.detailscale.toNat / 2 ^ k.factors.detail
    if v < t.detailmax.toInt then v else t.detailmax.toInt

/-- The factors of R309 that both chains take alike; code 1 is the channel's own local. -/
def textureFactor (k : Constants) (t : Tmu) (lod : Int) (o l : Argb) (own : Int) (code : Nat) : Int :=
  match code with
  | 1 => own
  | 2 => o.a
  | 3 => l.a
  | 4 => detailFactor k t lod
  | 5 => lod % 2 ^ k.lodFrac
  | _ => 0

/-- The unit's combine (R307–R312). -/
def textureCombine (k : Constants) (t : Tmu) (mode : Word) (lod : Int) (o l : Argb) : Argb :=
  let channel := fun (other loc : Int) =>
    combineChannel k.factors.texture (TexMode.zeroOther mode) (TexMode.subLocal mode) (TexMode.reverseBlend mode)
      (TexMode.invertOutput mode) other loc (textureFactor k t lod o l loc (TexMode.mselect k mode))
      (addTerm (TexMode.addLocal k mode) loc l.a)
  { a := combineChannel k.factors.texture (TexMode.alphaZeroOther mode) (TexMode.alphaSubLocal mode)
      (TexMode.alphaReverseBlend mode) (TexMode.alphaInvertOutput mode) o.a l.a
      (textureFactor k t lod o l l.a (TexMode.alphaMselect k mode)) (addAlpha (TexMode.alphaAddLocal k mode) l.a),
    r := channel o.r l.r, g := channel o.g l.g, b := channel o.b l.b }

/-- The iterators of one unit at a pixel, and its LOD base. -/
structure UnitIter where
  s : DWord
  t : DWord
  w : DWord
  lodbase : Int
deriving DecidableEq, Repr

/-- A colour and the state after it was found, or the refusal of a fetch (R403). -/
abbrev Sampled := Except Refusal (Argb × State)

/-- `tex_unit(u, x, y, itu, c_other)` (R306). -/
def texUnit (u x y : Nat) (it : UnitIter) (other : Argb) (s : State) : Sampled :=
  let mode := s.texReg u Reg.textureMode
  let k := texcoord s.config (s.tmu u) mode x y it.s it.t it.w it.lodbase
  match fetchRefusal (s.tmu u) k with
  | some r => .error r
  | none =>
    let s := s.setTmu u (freshTables s.config.constants mode (s.tmu u))
    let c := sample s.config (s.tmu u) mode k
    .ok (textureCombine s.config.constants (s.tmu u) mode k.lod other (Argb.unpack c), s)

/-- One unit of the chain: its tables are made fresh before its LOD limit is read (R180; DEDUCED, safe:
notes/assumptions/20.md); a unit whose
LOD limit is 8.0 or more passes its input through (R305). -/
def textureStep (u x y : Nat) (it : UnitIter) (other : Argb) (s : State) : Sampled :=
  let s := freshUnit u s
  if (s.tmu u).lodmin.toInt < s.config.constants.lodOff then texUnit u x y it other s else .ok (other, s)

/-- `texture_stage(x, y, it)` (R305): unit 1 first, into unit 0's input. -/
def textureStage (texcount x y : Nat) (it0 it1 : UnitIter) (s : State) : Sampled :=
  let zero : Argb := { a := 0, r := 0, g := 0, b := 0 }
  let first : Sampled := if 2 ≤ texcount then textureStep 1 x y it1 zero s else .ok (zero, s)
  match first with
  | .error r => .error r
  | .ok (c, s) => if 1 ≤ texcount then textureStep 0 x y it0 c s else .ok (c, s)

/-! ## Colour combine (R316–R321) -/

/-- The iterators of the FBI at a pixel. -/
structure PixelIter where
  a : Word
  r : Word
  g : Word
  b : Word
  z : Word
  w : DWord
deriving DecidableEq, Repr

/-- `clamped_argb(it)` (R295). -/
def clampedArgb (k : Constants) (wrap : Bool) (it : PixelIter) : Argb :=
  { a := clamp8 k wrap it.a, r := clamp8 k wrap it.r, g := clamp8 k wrap it.g, b := clamp8 k wrap it.b }

/-- A select of R317; the reserved code gives 0. -/
def otherSelect (code : Nat) (ia tex c1 : Int) : Int :=
  match code with
  | 0 => ia
  | 1 => tex
  | 2 => c1
  | _ => 0

/-- `c_other` (R317). -/
def colourOther (k : Constants) (cp : Word) (ia tex c1 : Argb) : Argb :=
  let sel := ColorPath.rgbSelect k cp
  { a := otherSelect (ColorPath.aSelect k cp) ia.a tex.a c1.a, r := otherSelect sel ia.r tex.r c1.r,
    g := otherSelect sel ia.g tex.g c1.g, b := otherSelect sel ia.b tex.b c1.b }

/-- The alpha of `c_local` (R318), under either variant; `ALOCAL_Z_BYTE` says which byte of the clamped Z. R40
gives code 3 to V2 alone, which a RESET may choose: under V1 it is then reserved and gives 0 (D26; DEDUCED:
notes/assumptions/28.md). -/
def localAlpha (s : State) (cp : Word) (ia c0 : Argb) (it : PixelIter) : Int :=
  match ColorPath.alphaLocalSelect s.config.constants cp with
  | 0 => ia.a
  | 1 => c0.a
  | 2 => (clampedZ s.config.constants (wrapIterators s) it.z >>> (8 * s.config.alocalZByte.val) % 256 : Nat)
  | _ => if s.isV2 || s.config.constants.localWV1 then (clampedW s.config.constants (wrapIterators s) it.w : Nat) else 0

/-- `c_local` (R318). -/
def colourLocal (s : State) (cp : Word) (ia tex c0 : Argb) (it : PixelIter) : Argb :=
  let useC0 :=
    if ColorPath.localSelectOverride cp then decide (128 ≤ tex.a) else ColorPath.localSelect cp
  let rgb := if useC0 then c0 else ia
  { rgb with a := localAlpha s cp ia c0 it }

/-- The RGB factor of R320, for one channel. -/
def colourFactor (v2 : Bool) (other loc tex : Argb) (own texOwn : Int) (code : Nat) : Int :=
  match code with
  | 1 => own
  | 2 => other.a
  | 3 => loc.a
  | 4 => tex.a
  | 5 => if v2 then texOwn else 0
  | _ => 0

/-- The alpha factor of R320. -/
def alphaFactor (other loc tex : Argb) (code : Nat) : Int :=
  match code with
  | 1 => loc.a
  | 2 => other.a
  | 3 => loc.a
  | 4 => tex.a
  | _ => 0

/-- `cc_combine(c_other, c_local, tex)` (R319–R321). -/
def colourCombine (k : Constants) (v2 : Bool) (cp : Word) (other loc tex : Argb) : Argb :=
  let channel := fun (o l t : Int) =>
    combineChannel k.factors.colour (ColorPath.zeroOther cp) (ColorPath.subLocal cp) (ColorPath.reverseBlend cp)
      (ColorPath.invertOutput cp) o l (colourFactor v2 other loc tex l t (ColorPath.mselect k cp))
      (addTerm (ColorPath.addLocal k cp) l loc.a)
  { a := combineChannel k.factors.colour (ColorPath.alphaZeroOther cp) (ColorPath.alphaSubLocal cp)
      (ColorPath.alphaReverseBlend cp) (ColorPath.alphaInvertOutput cp) other.a loc.a
      (alphaFactor other loc tex (ColorPath.alphaMselect k cp)) (addAlpha (ColorPath.alphaAddLocal k cp) loc.a),
    r := channel other.r loc.r tex.r, g := channel other.g loc.g tex.g, b := channel other.b loc.b tex.b }

/-! ## Chroma key, alpha mask, alpha test (R322–R324) -/

/-- A channel inside its range, or outside an exclusive one (R322). -/
def chromaIn (lo hi : Nat) (exclusive : Bool) (v : Int) : Bool :=
  (decide ((lo : Int) ≤ v) && decide (v ≤ (hi : Int))) != exclusive

/-- `chroma_test(c)` (R322). -/
def chromaPass (s : State) (c : Argb) : Bool :=
  let key := s.reg 0 Reg.chromaKey
  let rng := s.reg 0 Reg.chromaRange
  if !FbzMode.enableChromakey (s.reg 0 Reg.fbzMode) then true
  else if !s.isV2 || !ChromaRange.enable rng then
    !(decide (c.r = Argb.red key) && decide (c.g = Argb.green key) && decide (c.b = Argb.blue key))
  else
    let inB := chromaIn (Argb.blue key) (Argb.blue rng) (ChromaRange.blueExclusive rng) c.b
    let inG := chromaIn (Argb.green key) (Argb.green rng) (ChromaRange.greenExclusive rng) c.g
    let inR := chromaIn (Argb.red key) (Argb.red rng) (ChromaRange.redExclusive rng) c.r
    if ChromaRange.union rng then !(inR || inG || inB) else !(inR && inG && inB)

/-- `alpha_mask_test(a)` (R323). -/
def alphaMaskPass (s : State) (a : Int) : Bool :=
  !FbzMode.enableAlphaMask (s.reg 0 Reg.fbzMode) || decide (a % 2 = 1)

/-- `alpha_test(a)` (R324). -/
def alphaPass (s : State) (a : Int) : Bool :=
  let mode := s.reg 0 Reg.alphaMode
  !AlphaMode.test mode || cmp (AlphaMode.function s.config.constants mode) a.toNat (AlphaMode.ref s.config.constants mode)

/-! ## Fog (R330, R331) -/

/-- The table factor (R331); zones and dither are V2 fields. -/
def fogTableFactor (s : State) (mode : Word) (x y wf : Nat) : Int :=
  let k := s.config.constants
  let i := min (wf >>> k.fog.index) 63
  let delta := s.fbi.fogdelta.read i
  let dv : Int := ((delta &&& s.config.fogDeltaMask).toNat * ((wf >>> k.fog.fraction) % 2 ^ k.fog.fractionBits) : Nat)
  let dv : Int := if s.isV2 && FogMode.zones mode && bit delta k.fog.zoneBit then -dv else dv
  let dv : Int := dv / 2 ^ k.fog.delta
  let dv : Int := if s.isV2 && FogMode.dither mode then dv + (dither4 k x y : Nat) else dv
  ((s.fbi.fogblend.read i).toNat : Int) + dv / 2 ^ k.fog.dither

/-- `fog_factor` (R331); the V2 code 3 is reserved under V1 and gives 0 (D26; DEDUCED, unsafe:
notes/assumptions/27.md). -/
def fogFactor (s : State) (mode : Word) (x y wf : Nat) (z : Word) (w : DWord) (ia : Argb) : Int :=
  match FogMode.zalpha s.config.constants mode with
  | 0 => fogTableFactor s mode x y wf
  | 1 => ia.a
  | 2 => (clampedZ s.config.constants (wrapIterators s) z >>> s.config.constants.fog.depth : Nat)
  | _ => if s.isV2 then (clampedW s.config.constants (wrapIterators s) w : Nat) else 0

/-- One channel of `fog` (R330): the colour `c`, the fog colour `fc` and the factor. -/
def fogChannel (k : FactorStep) (mode : Word) (c fc f : Int) : Int :=
  let t :=
    if FogMode.constant mode then fc
    else
      let t := if FogMode.add mode then 0 else fc
      let t := if FogMode.mult mode then t else t - c
      t * (f + k.plus) / 2 ^ k.shift
  clampInt (if FogMode.mult mode then t else c + t) 0 255

/-- `fog(r, g, b, x, y, wf, it, ia)` (R330); alpha is not fogged. -/
def fog (s : State) (x y wf : Nat) (z : Word) (w : DWord) (ia c : Argb) : Argb :=
  let mode := s.reg 0 Reg.fogMode
  if !FogMode.enable mode then c
  else
    let fc := Argb.unpack (s.reg 0 Reg.fogColor)
    let f := fogFactor s mode x y wf z w ia
    let channel := fun (v fv : Int) => fogChannel s.config.constants.factors.fog mode v fv f
    { c with r := channel c.r fc.r, g := channel c.g fc.g, b := channel c.b fc.b }

/-! ## Alpha blend (R335–R337) -/

/-- `mul(x, f)` (R336). -/
def blendMul (k : FactorStep) (x f : Int) : Int := x * (f + k.plus) / 2 ^ k.shift

/-- `omul(x, f)` (R336). -/
def blendOmul (k : FactorStep) (x f : Int) : Int := x * (2 ^ k.shift - f) / 2 ^ k.shift

/-- The source term of a colour channel (R336). -/
def sourceTerm (k : FactorStep) (code : Nat) (sc dc sa da : Int) : Int :=
  match code with
  | 1 => blendMul k sc sa
  | 2 => blendMul k sc dc
  | 3 => blendMul k sc da
  | 4 => sc
  | 5 => blendOmul k sc sa
  | 6 => blendOmul k sc dc
  | 7 => blendOmul k sc da
  | 15 => blendMul k sc (if sa < 2 ^ k.shift - da then sa else 2 ^ k.shift - da)
  | _ => 0

/-- The destination term of a colour channel (R336); `pc` is the colour before fog. -/
def destTerm (k : FactorStep) (code : Nat) (sc dc sa da pc : Int) : Int :=
  match code with
  | 1 => blendMul k dc sa
  | 2 => blendMul k dc sc
  | 3 => blendMul k dc da
  | 4 => dc
  | 5 => blendOmul k dc sa
  | 6 => blendOmul k dc sc
  | 7 => blendOmul k dc da
  | 15 => blendMul k dc pc
  | _ => 0

/-- The source term of the alpha chain (R337). -/
def sourceAlphaTerm (k : FactorStep) (code : Nat) (sa da : Int) : Int :=
  match code with
  | 1 => blendMul k sa sa
  | 2 => blendMul k sa da
  | 3 => blendMul k sa da
  | 4 => sa
  | 5 => blendOmul k sa sa
  | 6 => blendOmul k sa da
  | 7 => blendOmul k sa da
  | 15 => sa
  | _ => 0

/-- The destination term of the alpha chain (R337). -/
def destAlphaTerm (k : FactorStep) (code : Nat) (sa da : Int) : Int :=
  match code with
  | 1 => blendMul k da sa
  | 2 => blendMul k da sa
  | 3 => blendMul k da da
  | 4 => da
  | 5 => blendOmul k da sa
  | 6 => blendOmul k da sa
  | 7 => blendOmul k da da
  | 15 => blendMul k da sa
  | _ => 0

/-- `ALPHA_BLEND_FN` (R337), before its clamp. -/
def alphaBlendSum (k : FactorStep) (fn : AlphaBlendFn) (src dst : Nat) (sa da : Int) : Int :=
  match fn with
  | .spec => sourceAlphaTerm k src sa da + destAlphaTerm k dst sa da
  | .implementation => Config.alphaBlendImpl src dst sa da

/-- The blend of R336 and R337: the source, the destination and the colour before fog. -/
def blend (k : Constants) (fn : AlphaBlendFn) (mode : Word) (src dst before : Argb) : Argb :=
  let channel := fun (sc dc pc : Int) =>
    clampInt (sourceTerm k.factors.blend (AlphaMode.srcRgb k mode) sc dc src.a dst.a +
      destTerm k.factors.blend (AlphaMode.dstRgb k mode) sc dc src.a dst.a pc) 0 255
  { a := clampInt (alphaBlendSum k.factors.blend fn (AlphaMode.srcAlpha k mode) (AlphaMode.dstAlpha k mode) src.a dst.a)
      0 255,
    r := channel src.r dst.r before.r, g := channel src.g dst.g before.g, b := channel src.b dst.b before.b }

/-- A read of a pixel's word in a buffer; a buffer that is NONE gives a draw. -/
def bufferRead (base : Option Word) (x sy : Nat) (s : State) : Half × State :=
  match base with
  | none => (Config.drawPixel s.draws, s.drawn)
  | some b => fbRead16 (b.toNat + pixelOffset s.fbi x sy) s

/-- The destination's alpha and the state after its read (R335): the whole 16-bit aux word, or the stated byte. -/
def destAlpha (x sy : Nat) (s : State) : Int × State :=
  if FbzMode.enableAlphaPlanes (s.reg 0 Reg.fbzMode) && s.fbi.auxoffs.isSome then
    let r := bufferRead s.fbi.auxoffs x sy s
    (r.1.toNat, r.2)
  else (s.config.constants.plainAlpha.toNat, s)

/-- The destination colour of R335 from the stored word, less the dither where fbzMode asks. -/
def destColour (k : Constants) (fbz : Word) (x y : Nat) (p : Half) (da : Int) : Argb :=
  let dr : Int := (field p k.pixel.r 5 <<< k.expand.destFive : Nat)
  let dg : Int := (field p k.pixel.g 6 <<< k.expand.destSix : Nat)
  let db : Int := (field p k.pixel.b 5 <<< k.expand.destFive : Nat)
  if FbzMode.alphaDitherSubtract fbz && FbzMode.enableDithering fbz then
    let d : Int := (dither k fbz x y : Nat)
    let less := fun (shift : Nat) (v : Int) => (v * 2 ^ shift + k.ditherTop - d * 2 ^ shift) / 2 ^ shift
    { a := da, r := less k.ditherShifts.rbUp dr, g := less k.ditherShifts.gUp dg, b := less k.ditherShifts.rbUp db }
  else { a := da, r := dr, g := dg, b := db }

/-- `alpha_blend(…)` (R335): the colour passes unchanged where the stage is off. -/
def alphaBlend (base : Option Word) (x y sy : Nat) (c before : Argb) (s : State) : Argb × State :=
  let mode := s.reg 0 Reg.alphaMode
  if !AlphaMode.blend mode then (c, s)
  else
    let p := bufferRead base x sy s
    let da := destAlpha x sy p.2
    let dst := destColour s.config.constants (s.reg 0 Reg.fbzMode) x y p.1 da.1
    (blend s.config.constants s.config.alphaBlend mode c dst before, da.2)

/-! ## Write-out (R340, R341) -/

/-- `write_out(x, y, sy, r, g, b, a, dv)` (R340). -/
def writeOut (base : Option Word) (x y : Nat) (d : Depth) (c : Argb) (s : State) : State :=
  let fbz := s.reg 0 Reg.fbzMode
  let s :=
    if FbzMode.rgbBufferMask fbz then
      bufferWrite base x d.sy (dither565 s.config.constants fbz c.r.toNat c.g.toNat c.b.toNat x y) s
    else s
  if FbzMode.auxBufferMask fbz then
    bufferWrite s.fbi.auxoffs x d.sy
      (if FbzMode.enableAlphaPlanes fbz then BitVec.ofInt 16 c.a else BitVec.ofNat 16 d.dv) s
  else s

/-- Fog, blend, write-out and the count of a pixel that no test has rejected (R290, stages 8–12), to the
colour buffer at `base`. -/
def pixelBack (base : Option Word) (x y : Nat) (d : Depth) (z : Word) (w : DWord) (ia c : Argb) (s : State) :
    State :=
  let r := alphaBlend base x y d.sy (fog s x y d.wf z w ia c) c s
  count .pixelsOut (writeOut base x y d r.1 r.2)

/-! ## The pixel of a triangle (R290) -/

/-- Stages 5–12 of a triangle's pixel, on the texture stage's colour. -/
def pixelColour (x y : Nat) (d : Depth) (it : PixelIter) (tex : Argb) (s : State) : State :=
  let cp := s.reg 0 Reg.fbzColorPath
  let ia := clampedArgb s.config.constants (wrapIterators s) it
  let other := colourOther s.config.constants cp ia tex (Argb.unpack (s.reg 0 Reg.color1))
  let loc := colourLocal s cp ia tex (Argb.unpack (s.reg 0 Reg.color0)) it
  let c := colourCombine s.config.constants s.isV2 cp other loc tex
  if !chromaPass s other then count .chromaFail s
  else if !alphaMaskPass s other.a then count .afuncFail s
  else if !alphaPass s c.a then count .afuncFail s
  else pixelBack (drawBase s) x y d it.z it.w ia c s

/-- `pixel(x, y)` (R290) with the iterators of its position. -/
def pixel (texcount x y : Nat) (it : PixelIter) (it0 it1 : UnitIter) (s : State) : Answer :=
  match pixelFront x y it.z it.w s with
  | (none, s) => .next s
  | (some d, s) =>
    match textureStage texcount x y it0 it1 s with
    | .error r => .refused r
    | .ok (tex, s) => .next (pixelColour x y d it tex s)

end Sys2Proof.Machine
end

