-- ==== Sys2Proof/Machine/Lfb.lean ====
section
/-! DEFINITION. The linear framebuffer path (45_lfb R360–R372): raw and pipelined writes, and reads. -/

namespace Sys2Proof.Machine

open Sys2Proof

/-! ## Raw writes (R366, R367) -/

/-- The row of a raw write or a read: lfbMode's own Y flip (R367, R371). -/
def lfbRow (s : State) (y : Nat) : Nat :=
  if LfbMode.yOrigin (s.reg 0 Reg.lfbMode) then flipY s y else y

/-- The colour part of a raw pixel (R367). -/
def rawColour (base : Option Word) (x y : Nat) (p : LfbPixel) (s : State) : State :=
  let fbz := s.reg 0 Reg.fbzMode
  if p.hasRgb && (FbzMode.rgbBufferMask fbz || !s.config.lfbRawMasks) then
    bufferWrite base x (lfbRow s y) (dither565 s.config.constants fbz p.r p.g p.b x y) s
  else s

/-- The aux part of a raw pixel (R367): alpha or depth, by fbzMode.enable_alpha_planes. -/
def rawAux (x y : Nat) (p : LfbPixel) (s : State) : State :=
  let fbz := s.reg 0 Reg.fbzMode
  if FbzMode.auxBufferMask fbz || !s.config.lfbRawMasks then
    if FbzMode.enableAlphaPlanes fbz then
      (if p.hasAlpha then bufferWrite s.fbi.auxoffs x (lfbRow s y) (BitVec.ofNat 16 p.a) s else s)
    else
      (if p.hasDepth then bufferWrite s.fbi.auxoffs x (lfbRow s y) (BitVec.ofNat 16 p.w) s else s)
  else s

/-- One raw pixel (R367): no test, no fog, no blend, no clip. -/
def lfbRawPixel (base : Option Word) (x y : Nat) (p : LfbPixel) (s : State) : State :=
  count .pixelsOut (rawAux x y p (rawColour base x y p s))

/-! ## Pipelined writes (R369) -/

/-- The LFB colour, which is "the iterated colour" (R369). -/
def LfbPixel.argb (p : LfbPixel) : Argb := { a := p.a, r := p.r, g := p.g, b := p.b }

/-- The LFB depth as the iterated Z. -/
def LfbPixel.z (k : Constants) (p : LfbPixel) : Word := BitVec.ofNat 32 (p.w <<< k.lfbZShift)

/-- The LFB depth as the iterated W. -/
def LfbPixel.iw (k : Constants) (p : LfbPixel) : DWord := BitVec.ofNat 64 (p.w <<< k.lfbWShift)

/-- The tests and the reduced combine of R369: they act on the written colour, with no texture. -/
def lfbPipelineColour (base : Option Word) (x y : Nat) (d : Depth) (p : LfbPixel) (s : State) : State :=
  let zero : Argb := { a := 0, r := 0, g := 0, b := 0 }
  let ia := p.argb
  if !chromaPass s ia then count .chromaFail s
  else if !alphaMaskPass s ia.a then count .afuncFail s
  else if !alphaPass s ia.a then count .afuncFail s
  else
    pixelBack base x y d (p.z s.config.constants) (p.iw s.config.constants) ia
      (colourCombine s.config.constants s.isV2 (s.reg 0 Reg.fbzColorPath) ia ia zero) s

/-- `lfb_pixel(p, xp, y)` (R369). -/
def lfbPipelinePixel (base : Option Word) (x y : Nat) (p : LfbPixel) (s : State) : State :=
  match pixelFront x y (p.z s.config.constants) (p.iw s.config.constants) s with
  | (none, s) => s
  | (some d, s) => lfbPipelineColour base x y d p s

/-! ## LFB_WR (R360–R369) -/

/-- A pixel of the word: one with nothing present is skipped (R364). -/
def lfbPixel (pipeline : Bool) (base : Option Word) (x y : Nat) (p : LfbPixel) (s : State) : State :=
  if !p.present then s
  else if pipeline then lfbPipelinePixel base x y p s
  else lfbRawPixel base x y p s

/-- The pixels of the word, pixel 0 completely before pixel 1 (R363). -/
def lfbPixels (pipeline : Bool) (base : Option Word) (offset : Word) (w : LfbWord) (s : State) : State :=
  match w with
  | .single p =>
    let k := lfbSinglePosition s.config.constants offset
    lfbPixel pipeline base k.x k.y p s
  | .pair p0 p1 =>
    let k := lfbPairPosition s.config.constants offset
    lfbPixel pipeline base (k.x + 1) k.y p1 (lfbPixel pipeline base k.x k.y p0 s)

/-- The buffer a write goes to (R366), none for the reserved selects. -/
def lfbTarget (k : Constants) (mode : Word) (f : Fbi) : Option (Fin 3) :=
  match LfbMode.writeBuffer k mode with
  | 0 => some f.frontbuf
  | 1 => some f.backbuf
  | _ => none

/-- `LFB_WR(offset, value, byte_mask)` (R360): `drop(reserved_lfb_format)`, then `drop(reserved_lfb_buffer)`
(R407), then the pixels, then the fold. -/
def lfbWrite (offset value : Word) (mask : BitVec 4) (s : State) : Answer :=
  let mode := s.reg 0 Reg.lfbMode
  match lfbDecode s.config.constants mode (lfbPrepare mode value mask) (s.reg 0 Reg.zaColor) with
  | none => drop s
  | some w =>
    match lfbTarget s.config.constants mode s.fbi with
    | none => drop s
    | some buf =>
      done (foldStats (lfbPixels (LfbMode.enablePipeline mode) (s.fbi.rgb buf) offset w s))

/-! ## LFB_RD (R371) -/

/-- The buffer a read comes from; none for the reserved select and for a missing aux buffer. -/
def lfbReadBase (k : Constants) (mode : Word) (f : Fbi) : Option Word :=
  match LfbMode.readBuffer k mode with
  | 0 => f.rgb f.frontbuf
  | 1 => f.rgb f.backbuf
  | 2 => f.auxoffs
  | _ => none

/-- The two pixels of a read in one word (R371). -/
def joinHalves (k : WordParts) (first second : Half) : Word :=
  first.setWidth 32 <<< k.readFirst ||| second.setWidth 32 <<< k.readSecond

/-- The data word after the read's word swap and then its byte swizzle (R371). -/
def lfbReadSwap (mode d : Word) : Word :=
  let d := if LfbMode.wordSwapReads mode then halfSwap d else d
  if LfbMode.byteSwizzleReads mode then byteReverse d else d

/-- The byte address of pixel x of a read, in a buffer at `b`. -/
def lfbReadAddress (s : State) (b offset : Word) : Nat :=
  let k := lfbPairPosition s.config.constants offset
  b.toNat + pixelOffset s.fbi k.x (lfbRow s k.y)

/-- The word `LFB_RD(offset)` returns (R371). -/
def lfbReadWord (offset : Word) (s : State) : Word :=
  let mode := s.reg 0 Reg.lfbMode
  match lfbReadBase s.config.constants mode s.fbi with
  | none => 0xFFFFFFFF
  | some b =>
    let a := lfbReadAddress s b offset
    if a + 3 > s.fbi.mask.toNat then 0xFFFFFFFF
    else lfbReadSwap mode (joinHalves s.config.constants.parts (fbWord a s.fbi) (fbWord (a + 2) s.fbi))

/-- `LFB_RD(offset)` (R371): it changes no state. -/
def lfbRead (offset : Word) (s : State) : Answer := answer (lfbReadWord offset s) s

end Sys2Proof.Machine
end

