-- ==== Sys2Proof/Machine/Float32.lean ====
section
/-! DEFINITION. Binary32 arithmetic of the setup engine (42 R243, R244, D51, D52): round to nearest even, one
rounding per operation, no fused multiply-add. A number is kept exactly; a NaN carries no payload, because
none can be observed (R244 makes it 0; DEDUCED: notes/assumptions/33.md). -/

namespace Sys2Proof.Machine

open Sys2Proof

/-- A binary32 value: a finite one is `(-1)^neg * m * 2^e`. -/
inductive Float32Value where
  | nan
  | inf (neg : Bool)
  | fin (neg : Bool) (m : Nat) (e : Int)
deriving DecidableEq, Repr

/-- `as_f32` (R12). -/
def floatOfBits (v : Word) : Float32Value :=
  let neg := bit v 31
  let e := field v 23 8
  let f := field v 0 23
  if e = 255 then (if f = 0 then .inf neg else .nan)
  else if e = 0 then .fin neg f (-149)
  else .fin neg (f + 2 ^ 23) ((e : Int) - 150)

/-- The integer constant `n` (with the stated fractions 16, 4096 or 2^32). -/
def floatConst (n : Nat) : Float32Value := .fin false n 0

/-- A rounded magnitude, infinite where its exponent is above the largest. -/
def floatPack (neg : Bool) (m : Nat) (e : Int) : Float32Value :=
  if 104 < e ∨ (e = 104 ∧ 2 ^ 24 ≤ m) then .inf neg else .fin neg m e

/-- Round `m * 2^e` to 24 bits, exponent at least -149, to nearest, ties to even. -/
def floatRound (neg : Bool) (m : Nat) (e : Int) : Float32Value :=
  if m = 0 then .fin neg 0 (-149)
  else
    let top : Int := e + (Nat.log2 m : Int) - 23
    let q : Int := if top < -149 then -149 else top
    if q ≤ e then floatPack neg (m <<< (e - q).toNat) q
    else
      let d := (q - e).toNat
      let kept := m >>> d
      let rest := m % 2 ^ d
      let half := 2 ^ (d - 1)
      floatPack neg (if half < rest ∨ (rest = half ∧ kept % 2 = 1) then kept + 1 else kept) q

/-- The sum of two finite values, before rounding, at the smaller of their exponents. -/
def floatSumExact (n1 : Bool) (m1 : Nat) (e1 : Int) (n2 : Bool) (m2 : Nat) (e2 : Int) (e : Int) : Int :=
  let a : Int := m1 <<< (e1 - e).toNat
  let b : Int := m2 <<< (e2 - e).toNat
  (if n1 then -a else a) + (if n2 then -b else b)

/-- `x + y`. An exact zero sum is +0 unless both are -0. -/
def floatAdd (x y : Float32Value) : Float32Value :=
  match x, y with
  | .nan, _ => .nan
  | _, .nan => .nan
  | .inf a, .inf b => if a = b then .inf a else .nan
  | .inf a, .fin _ _ _ => .inf a
  | .fin _ _ _, .inf b => .inf b
  | .fin n1 m1 e1, .fin n2 m2 e2 =>
    let e := if e1 < e2 then e1 else e2
    let v := floatSumExact n1 m1 e1 n2 m2 e2 e
    if v = 0 then .fin (n1 && n2) 0 (-149) else floatRound (decide (v < 0)) v.natAbs e

/-- `-y`. -/
def floatNeg : Float32Value → Float32Value
  | .nan => .nan
  | .inf n => .inf (!n)
  | .fin n m e => .fin (!n) m e

/-- `x - y`. -/
def floatSub (x y : Float32Value) : Float32Value := floatAdd x (floatNeg y)

/-- `x * y`. -/
def floatMul (x y : Float32Value) : Float32Value :=
  match x, y with
  | .nan, _ => .nan
  | _, .nan => .nan
  | .inf a, .inf b => .inf (a != b)
  | .inf a, .fin n m _ => if m = 0 then .nan else .inf (a != n)
  | .fin n m _, .inf b => if m = 0 then .nan else .inf (n != b)
  | .fin n1 m1 e1, .fin n2 m2 e2 => floatRound (n1 != n2) (m1 * m2) (e1 + e2)

/-- `1 / x`. The quotient keeps more than 26 bits and, in its last bit, whether a remainder is left. -/
def floatRecip (x : Float32Value) : Float32Value :=
  match x with
  | .nan => .nan
  | .inf n => .fin n 0 (-149)
  | .fin n m e =>
    if m = 0 then .inf n
    else
      let k := Nat.log2 m + 28
      let q := 2 ^ k / m
      let sticky := if 2 ^ k % m = 0 then 0 else 1
      floatRound n (2 * q + sticky) (-(k : Int) - 1 - e)

/-- `x < 0`. -/
def floatNegative : Float32Value → Bool
  | .nan => false
  | .inf n => n
  | .fin n m _ => n && decide (m ≠ 0)

/-- `x = 0`. -/
def floatIsZero : Float32Value → Bool
  | .fin _ m _ => decide (m = 0)
  | _ => false

/-- `cvt_N(f)` (R244): truncate toward zero, saturate, NaN gives 0. -/
def floatToInt (n : Nat) (x : Float32Value) : BitVec n :=
  let lo : Int := -2 ^ (n - 1)
  let hi : Int := 2 ^ (n - 1) - 1
  match x with
  | .nan => 0
  | .inf neg => BitVec.ofInt n (if neg then lo else hi)
  | .fin neg m e =>
    let v : Int := if 0 ≤ e then (m <<< e.toNat : Nat) else (m >>> (-e).toNat : Nat)
    BitVec.ofInt n (clampInt (if neg then -v else v) lo hi)

end Sys2Proof.Machine
end

