-- ==== Sys2Proof/Machine/RasterCache.lean ====
section
/-! DEFINITION. The rasterizer selection cache (43_raster_cache R270–R278). -/

namespace Sys2Proof.Machine

open Sys2Proof

/-! ## The normalised key (R271) -/

/-- The `alpha` field: no reference byte, and no field of a test or blend that is off. -/
def normalAlpha (k : Constants) (v : Word) : Word :=
  let a := v &&& ~~~k.keys.alpha
  let a := if AlphaMode.test v then a else a &&& ~~~k.keys.alphaTest
  if AlphaMode.blend v then a else a &&& ~~~k.keys.alphaBlend

/-- The bucket of a texture format: below 8, 10 to 12, the rest. -/
def formatBucket (k : KeyMasks) (format : Nat) : BitVec 4 :=
  if format < 8 then k.bucketLow else if 10 ≤ format ∧ format ≤ 12 then k.bucketDirect else k.bucketOther

/-- A `tex` field: no table select, no download order, the format by its bucket. -/
def normalTexture (k : Constants) (v : Word) : Word :=
  (v &&& ~~~k.keys.texture &&& ~~~k.keys.format) |||
    (formatBucket k.keys (TexMode.format k v)).setWidth 32 <<< k.keys.formatPlace

/-- `make_key(texcount)`. -/
def makeKey (texcount : Nat) (s : State) : Key :=
  let k := s.config.constants
  { cp := s.reg 0 Reg.fbzColorPath &&& ~~~k.keys.colorPath, fbz := s.reg 0 Reg.fbzMode &&& ~~~k.keys.fbz,
    alpha := normalAlpha k (s.reg 0 Reg.alphaMode),
    fog := if FogMode.enable (s.reg 0 Reg.fogMode) then s.reg 0 Reg.fogMode else 0,
    tex0 := if 1 ≤ texcount then normalTexture k (s.texReg 0 Reg.textureMode) else k.keys.absent,
    tex1 := if texcount = 2 then normalTexture k (s.texReg 1 Reg.textureMode) else k.keys.absent }

/-- `hash(k)` (R273), a bucket number. -/
def hashKey (k : Key) : Nat :=
  let mix := fun (h f : Word) => h.rotateLeft 1 ^^^ f
  (mix (mix (mix (mix (mix k.cp k.fbz) k.alpha) k.fog) k.tex0) k.tex1).toNat % 97

/-! ## Resolve (R272, R274) -/

/-- The entry of a bucket whose key is `k`. -/
def Cache.lookup (c : Cache) (h : Nat) (k : Key) : Option Nat :=
  (c.buckets.getD h []).find? fun e => decide ((c.entries[e]?).map CacheEntry.key = some k)

/-- A hit: the entry moves to the front of its bucket and counts one more triangle. -/
def Cache.hit (c : Cache) (h e : Nat) : Cache :=
  { buckets := c.buckets.modify h fun b => e :: b.erase e,
    entries := c.entries.modify e fun x => { x with polys := x.polys + 1 } }

/-- A miss: the next entry, at the front of its bucket. -/
def Cache.allocate (c : Cache) (h : Nat) (k : Key) (texcount : Nat) : Cache :=
  { buckets := c.buckets.modify h fun b => c.entries.length :: b,
    entries := c.entries ++ [{ key := k, routine := texcount, hits := 0, polys := 1 }] }

/-- `resolve(texcount)` on the cache: none where a miss finds it full. -/
def Cache.resolve (capacity texcount : Nat) (k : Key) (c : Cache) : Option Cache :=
  match c.lookup (hashKey k) k with
  | some e => some (c.hit (hashKey k) e)
  | none =>
    if capacity ≤ c.entries.length then none else some (c.allocate (hashKey k) k texcount)

/-- `resolve(texcount)` (R272); none is `FATAL(cache_overflow)`. The routine found is always generic(texcount)
(R278) and changes no pixel (R275), so only the cache is returned. -/
def resolve (texcount : Nat) (s : State) : Option State :=
  match s.cache.resolve s.config.cacheMax texcount (makeKey texcount s) with
  | some c => some { s with cache := c }
  | none => none

end Sys2Proof.Machine
end

