-- ==== Sys2Proof/Machine/Setup.lean ====
section
/-! DEFINITION. The geometry and setup engine (42_setup_engine R230–R246): triangle submission, scan conversion
and the setup-mode vertices. -/

namespace Sys2Proof.Machine

open Sys2Proof

/-! ## Active units and the LOD base (R232, R237) -/

/-- `active_units()` (R232, D3). -/
def activeUnits (s : State) : Nat :=
  if !ColorPath.textureEnable (s.reg 0 Reg.fbzColorPath) || FbiInit3.disableTmus (s.reg 0 Reg.fbiInit3) then 0
  else s.config.ntmu.val

/-- `x*x + y*y` of two gradients as 14.18 values, in s64 (R237). -/
def gradientSquare (shift : Nat) (x y : DWord) : DWord :=
  let x := x.sshiftRight shift
  let y := y.sshiftRight shift
  x * x + y * y

/-- The default of `LODBASE_FN` (R237). -/
def lodBaseReference (c : Config) (t : Tmu) : Int :=
  let k := c.constants.lodBase
  let texdx := gradientSquare k.gradient t.s.dx t.t.dx
  let texdy := gradientSquare k.gradient t.s.dy t.t.dy
  let m := if texdx.toInt < texdy.toInt then texdy else texdx
  Int.tdiv (-(fastRecipLog c m).log + k.levels * 2 ^ c.constants.lodFrac) k.divisor

/-- `LODBASE_FN(tmu[u])` (R237, D23). -/
def lodBase (c : Config) (t : Tmu) : Int :=
  match c.lodBase with
  | .reference => lodBaseReference c t
  | .implementation => Config.lodBaseImpl t.s.dx t.t.dx t.s.dy t.t.dy

/-! ## Sub-pixel correction (R238) -/

/-- The start value moved by an offset in parts of a pixel, `frac` fraction bits, in the iterator's width; the sum
before the shift is exact (DEDUCED: notes/assumptions/26.md). -/
def Grad.shifted {w : Nat} (frac : Nat) (g : Grad w) (dx dy : Int) : Grad w :=
  { g with start := BitVec.ofInt w (g.start.toInt + (dy * g.dy.toInt + dx * g.dx.toInt) / 2 ^ frac) }

/-- The unit's three starts moved. -/
def Tmu.shifted (frac : Nat) (t : Tmu) (dx dy : Int) : Tmu :=
  { t with s := t.s.shifted frac dx dy, t := t.t.shifted frac dx dy, w := t.w.shifted frac dx dy }

/-- Half a pixel, in the parts of a pixel that a vertex coordinate counts. -/
def halfPixel (frac : Nat) : Nat := 2 ^ frac / 2

/-- `subpixel_adjust(texcount)`: the starts stay moved (D15). -/
def subpixelAdjust (texcount : Nat) (s : State) : State :=
  let f := s.fbi
  let k := s.config.constants.vertexFrac
  let dx : Int := halfPixel k - (field f.va.x 0 k : Int)
  let dy : Int := halfPixel k - (field f.va.y 0 k : Int)
  let fbi : Fbi := { f with
    r := f.r.shifted k dx dy, g := f.g.shifted k dx dy, b := f.b.shifted k dx dy, a := f.a.shifted k dx dy,
    z := f.z.shifted k dx dy, w := f.w.shifted k dx dy }
  { s with
    fbi := fbi,
    tmu0 := if 1 ≤ texcount then s.tmu0.shifted k dx dy else s.tmu0,
    tmu1 := if 2 ≤ texcount then s.tmu1.shifted k dx dy else s.tmu1 }

/-! ## The snapshot and its iterators (R231, R234) -/

/-- The S, T and W of one unit at submission, and its LOD base. -/
structure UnitSnapshot where
  s : Grad 64
  t : Grad 64
  w : Grad 64
  lodbase : Int
deriving DecidableEq, Repr

/-- The Triangle Gradient Snapshot (R231), and the fraction bits of its vertices. -/
structure Snapshot where
  frac : Nat
  va : Vertex
  vb : Vertex
  vc : Vertex
  r : Grad 32
  g : Grad 32
  b : Grad 32
  a : Grad 32
  z : Grad 32
  w : Grad 64
  unit0 : UnitSnapshot
  unit1 : UnitSnapshot
  texcount : Nat
deriving DecidableEq, Repr

/-- One unit's part of the snapshot. -/
def unitSnapshot (c : Config) (t : Tmu) : UnitSnapshot := { s := t.s, t := t.t, w := t.w, lodbase := lodBase c t }

/-- `snapshot()` (R231); the LOD bases read only gradients, which the sub-pixel step leaves alone. -/
def snapshot (texcount : Nat) (s : State) : Snapshot :=
  let f := s.fbi
  { frac := s.config.constants.vertexFrac, va := f.va, vb := f.vb, vc := f.vc, r := f.r, g := f.g, b := f.b,
    a := f.a, z := f.z, w := f.w, unit0 := unitSnapshot s.config s.tmu0, unit1 := unitSnapshot s.config s.tmu1,
    texcount := texcount }

/-- The plane equation of R234 in the iterator's own width. -/
def Grad.iter {w : Nat} (g : Grad w) (dx dy : Int) : BitVec w :=
  g.start + BitVec.ofInt w dy * g.dy + BitVec.ofInt w dx * g.dx

/-- One unit's iterators at an offset from vertex A. -/
def UnitSnapshot.iter (u : UnitSnapshot) (dx dy : Int) : UnitIter :=
  { s := u.s.iter dx dy, t := u.t.iter dx dy, w := u.w.iter dx dy, lodbase := u.lodbase }

/-- The FBI's iterators at an offset from vertex A. -/
def Snapshot.iter (n : Snapshot) (dx dy : Int) : PixelIter :=
  { a := n.a.iter dx dy, r := n.r.iter dx dy, g := n.g.iter dx dy, b := n.b.iter dx dy, z := n.z.iter dx dy,
    w := n.w.iter dx dy }

/-- `pixel(x, y)` with the iterators of R234. -/
def snapPixel (n : Snapshot) (x y : Nat) (s : State) : Answer :=
  let dx : Int := x - n.va.x.toInt / 2 ^ n.frac
  let dy : Int := y - n.va.y.toInt / 2 ^ n.frac
  pixel n.texcount x y (n.iter dx dy) (n.unit0.iter dx dy) (n.unit1.iter dx dy) s

/-! ## Scan conversion (R233, D16) -/

/-- A vertex in parts of a pixel. -/
structure Point where
  x : Int
  y : Int
deriving DecidableEq, Repr

/-- The vertex as integers. -/
def Vertex.point (v : Vertex) : Point := { x := v.x.toInt, y := v.y.toInt }

/-- Three points, the topmost first. -/
structure Sorted where
  v0 : Point
  v1 : Point
  v2 : Point
deriving DecidableEq, Repr

/-- The stable sort by Y. -/
def sortPoints (a b c : Point) : Sorted :=
  let p := if b.y < a.y then b else a
  let q := if b.y < a.y then a else b
  if c.y < p.y then { v0 := c, v1 := p, v2 := q }
  else if c.y < q.y then { v0 := p, v1 := c, v2 := q }
  else { v0 := p, v1 := q, v2 := c }

/-- `floor(edge_x(p, q, y + 1/2) + 1/2)` (R233), with `frac` fraction bits a coordinate. Where the edge is flat
the formula divides by zero: an edge that is one point has that point's X, any other a free value (DESIGN CHOICE:
notes/assumptions/10.md). -/
def edgeX (frac : Nat) (p q : Point) (y : Int) : Int :=
  let den := q.y - p.y
  let one : Int := 2 ^ frac
  let half : Int := halfPixel frac
  if den = 0 then (if p.x = q.x then (p.x + half) / one else Config.flatEdge p.x q.x y)
  else (p.x * den + (one * y + half - p.y) * (q.x - p.x) + half * den) / (one * den)

/-- The first pixel of a span and the pixel after its last, before the screen's bounds. -/
structure Span where
  first : Int
  stop : Int
deriving DecidableEq, Repr

/-- The span of row `y` (R233). Flooring keeps the order of the two edges. -/
def spanOf (frac : Nat) (v : Sorted) (y : Int) : Span :=
  let xa := edgeX frac v.v0 v.v2 y
  let xb := if 2 ^ frac * y + halfPixel frac < v.v1.y then edgeX frac v.v0 v.v1 y else edgeX frac v.v1 v.v2 y
  if xa ≤ xb then { first := xa, stop := xb } else { first := xb, stop := xa }

/-- `floor(Y + 1/2)`: the first row whose centre is not above a vertex (R233). -/
def rowOf (frac : Nat) (p : Point) : Int := (p.y + halfPixel frac) / 2 ^ frac

/-- A bound of a loop over 0..1023. -/
def screenBound (v : Int) : Nat := (clampInt v 0 1024).toNat

/-- One row, left to right. -/
def rasterRow (n : Snapshot) (v : Sorted) (y : Nat) (s : State) : Answer :=
  let span := spanOf n.frac v y
  let x0 := screenBound span.first
  forRange (screenBound span.stop - x0) x0 (fun x => snapPixel n x y) s

/-- `rasterize(snap, texcount)` (R233), top to bottom. -/
def rasterize (n : Snapshot) (s : State) : Answer :=
  let v := sortPoints n.va.point n.vb.point n.vc.point
  let y0 := screenBound (rowOf n.frac v.v0)
  forRange (screenBound (rowOf n.frac v.v2) - y0) y0 (rasterRow n v) s

/-! ## Submission (R230) -/

/-- `reg[0][fbiTrianglesOut] + 1` (R236); the statistics block's own count stays (DEDUCED, safe:
notes/assumptions/16.md). -/
def countTriangle (s : State) : State :=
  s.setReg 0 Reg.fbiTrianglesOut (s.reg 0 Reg.fbiTrianglesOut + 1)

/-- The state in which a triangle is resolved: after the sub-pixel step. -/
def adjusted (s : State) : State :=
  if ColorPath.subpixelAdjust (s.reg 0 Reg.fbzColorPath) then subpixelAdjust (activeUnits s) s else s

/-- `submit_triangle()` (R230). -/
def submitTriangle (s : State) : Answer :=
  let n := activeUnits s
  let s := adjusted s
  if 2 ≤ FbzMode.drawBuffer s.config.constants (s.reg 0 Reg.fbzMode) then done s
  else
    match resolve n s with
    | none => raiseFatal .cacheOverflow s
    | some s => andThen (rasterize (snapshot n s) s) fun s => done (countTriangle (foldStats s))

/-! ## Setup-mode vertices (R240, R241) -/

/-- `capture(v)`: the setup-vertex registers as they are now (R240). -/
def capture (s : State) : SetupVertex :=
  { x := s.reg 0 Reg.sVx, y := s.reg 0 Reg.sVy, a := s.reg 0 Reg.sAlpha, r := s.reg 0 Reg.sRed,
    g := s.reg 0 Reg.sGreen, b := s.reg 0 Reg.sBlue, z := s.reg 0 Reg.sVz, wb := s.reg 0 Reg.sWb,
    w0 := s.reg 0 Reg.sWtmu0, s0 := s.reg 0 Reg.sS_W0, t0 := s.reg 0 Reg.sT_W0, w1 := s.reg 0 Reg.sWtmu1,
    s1 := s.reg 0 Reg.sS_Wtmu1, t1 := s.reg 0 Reg.sT_Wtmu1 }

/-- `begin_strip_vertex()` (R240). -/
def beginStrip (s : State) : State :=
  let v := capture s
  s.setFbi { s.fbi with svert0 := v, svert1 := v, svert2 := v, sverts := 1 }

/-- The ring after a vertex is appended (R241). -/
def appendVertex (s : State) : State :=
  let f := s.fbi
  s.setFbi { f with
    svert0 := if SetupMode.fan (s.reg 0 Reg.sSetupMode) then f.svert0 else f.svert1,
    svert1 := f.svert2, svert2 := capture s, sverts := f.sverts + 1 }

/-! ## Setup of a triangle (R242–R244) -/

/-- `cvt_16(v * 16)` (R243), 16 parts a pixel. -/
def setupCoordinate (frac : Nat) (v : Word) : Half := floatToInt 16 (floatMul (floatOfBits v) (floatConst (2 ^ frac)))

/-- The vertex registers of the three setup vertices (R243). -/
def setupVertices (frac : Nat) (f : Fbi) : Fbi :=
  { f with
    va := { x := setupCoordinate frac f.svert0.x, y := setupCoordinate frac f.svert0.y },
    vb := { x := setupCoordinate frac f.svert1.x, y := setupCoordinate frac f.svert1.y },
    vc := { x := setupCoordinate frac f.svert2.x, y := setupCoordinate frac f.svert2.y } }

/-- A difference of two registers read as binary32. -/
def floatDiff (a b : Word) : Float32Value := floatSub (floatOfBits a) (floatOfBits b)

/-- The signed area of R243. -/
def setupArea (f : Fbi) : Float32Value :=
  floatSub (floatMul (floatDiff f.svert0.x f.svert1.x) (floatDiff f.svert0.y f.svert2.y))
    (floatMul (floatDiff f.svert0.x f.svert2.x) (floatDiff f.svert0.y f.svert1.y))

/-- The culling test of R242: is the triangle rejected? -/
def culled (k : Constants) (mode : Word) (sverts : Word) (divisor : Float32Value) : Bool :=
  SetupMode.cull mode &&
    (let sign := SetupMode.cullSign mode
     let pingPong := !SetupMode.fan mode && !SetupMode.noPingPong mode
     let sign := if pingPong then sign != bit (sverts - k.cullParity) 0 else sign
     (floatNegative divisor != sign) != k.cullOnMatch)

/-- `grad(a0, a1, a2, k)` of R243, converted by `cvt_w`. -/
def setupGrad (w : Nat) (f : Fbi) (k : Nat) (a0 a1 a2 : Word) : Grad w :=
  let dx1 := floatDiff f.svert0.y f.svert2.y
  let dx2 := floatDiff f.svert0.y f.svert1.y
  let dy1 := floatDiff f.svert0.x f.svert1.x
  let dy2 := floatDiff f.svert0.x f.svert2.x
  let scale := floatMul (floatRecip (setupArea f)) (floatConst k)
  let d1 := floatDiff a0 a1
  let d2 := floatDiff a0 a2
  { start := floatToInt w (floatMul (floatOfBits a0) (floatConst k)),
    dx := floatToInt w (floatMul (floatSub (floatMul d1 dx1) (floatMul d2 dx2)) scale),
    dy := floatToInt w (floatMul (floatSub (floatMul d2 dy1) (floatMul d1 dy2)) scale) }

/-- The gradient of one attribute of the three vertices. -/
def setupAttr (w k : Nat) (f : Fbi) (attr : SetupVertex → Word) : Grad w :=
  setupGrad w f k (attr f.svert0) (attr f.svert1) (attr f.svert2)

/-- Bits 0 to 3 of sSetupMode, the FBI's groups (R243). -/
def setupFbi (k : FloatFractions) (mode : Word) (f : Fbi) : Fbi :=
  { f with
    r := if SetupMode.rgb mode then setupAttr 32 (2 ^ k.colour) f SetupVertex.r else f.r,
    g := if SetupMode.rgb mode then setupAttr 32 (2 ^ k.colour) f SetupVertex.g else f.g,
    b := if SetupMode.rgb mode then setupAttr 32 (2 ^ k.colour) f SetupVertex.b else f.b,
    a := if SetupMode.alpha mode then setupAttr 32 (2 ^ k.colour) f SetupVertex.a else f.a,
    z := if SetupMode.z mode then setupAttr 32 (2 ^ k.depth) f SetupVertex.z else f.z,
    w := if SetupMode.wb mode then setupAttr 64 (2 ^ k.w) f SetupVertex.wb else f.w }

/-- Bits 3 to 5, the groups that unit 0 takes (R243): bit 4 overwrites the W of bit 3. -/
def setupUnit0 (k : FloatFractions) (mode : Word) (f : Fbi) (t : Tmu) : Tmu :=
  { t with
    w := if SetupMode.w0 mode then setupAttr 64 (2 ^ k.w) f SetupVertex.w0
      else if SetupMode.wb mode then setupAttr 64 (2 ^ k.w) f SetupVertex.wb else t.w,
    s := if SetupMode.st0 mode then setupAttr 64 (2 ^ k.tex) f SetupVertex.s0 else t.s,
    t := if SetupMode.st0 mode then setupAttr 64 (2 ^ k.tex) f SetupVertex.t0 else t.t }

/-- Bits 3 to 7, the groups that unit 1 takes (R243): unit 0's first, then its own. -/
def setupUnit1 (k : FloatFractions) (mode : Word) (f : Fbi) (t : Tmu) : Tmu :=
  let t := setupUnit0 k mode f t
  { t with
    w := if SetupMode.w1 mode then setupAttr 64 (2 ^ k.w) f SetupVertex.w1 else t.w,
    s := if SetupMode.st1 mode then setupAttr 64 (2 ^ k.tex) f SetupVertex.s1 else t.s,
    t := if SetupMode.st1 mode then setupAttr 64 (2 ^ k.tex) f SetupVertex.t1 else t.t }

/-- The gradients of R243; an absent unit takes none. -/
def setupGradients (s : State) : State :=
  let mode := s.reg 0 Reg.sSetupMode
  let k := s.config.constants.floats
  { s with
    fbi := setupFbi k mode s.fbi,
    tmu0 := if 1 ≤ s.config.ntmu.val then setupUnit0 k mode s.fbi s.tmu0 else s.tmu0,
    tmu1 := if s.config.ntmu.val = 2 then setupUnit1 k mode s.fbi s.tmu1 else s.tmu1 }

/-- `setup_and_draw()` (R243). -/
def setupAndDraw (s : State) : Answer :=
  let s := s.setFbi (setupVertices s.config.constants.vertexFrac s.fbi)
  let area := setupArea s.fbi
  if culled s.config.constants (s.reg 0 Reg.sSetupMode) s.fbi.sverts (floatRecip area) then done s
  else if floatIsZero area then submitTriangle s
  else submitTriangle (setupGradients s)

/-- `append_strip_vertex()` (R241). -/
def appendStrip (s : State) : Answer :=
  let s := appendVertex s
  if 3 ≤ s.fbi.sverts.toNat then setupAndDraw s else done s

end Sys2Proof.Machine
end

