-- ==== Sys2Proof/Machine/RegBus.lean ====
section
/-! DEFINITION. The register bus (40_register_bus R130–R165): the side effects of the registers as data, the
one generic write path with its gates, and the one read path. -/

namespace Sys2Proof.Machine

open Sys2Proof

/-! ## Side effects as data (R108, R142–R163) -/

/-- A corner of the triangle. -/
inductive Corner where
  | a
  | b
  | c
deriving DecidableEq, Repr

/-- A coordinate of a corner. -/
inductive Axis where
  | x
  | y
deriving DecidableEq, Repr

/-- A 12.12 or 20.12 parameter of the FBI (R143, R144). -/
inductive Param where
  | r
  | g
  | b
  | a
  | z
deriving DecidableEq, Repr

/-- A texture coordinate (R145). -/
inductive TexParam where
  | s
  | t
deriving DecidableEq, Repr

/-- The part of an iterator a register holds. -/
inductive Part where
  | start
  | dx
  | dy
deriving DecidableEq, Repr

/-- What the write of a register does after the store (R130). -/
inductive RegEffect where
  /-- The store is the whole effect (R147, R154, R161, R163). -/
  | stored
  /-- A vertex coordinate (R142). -/
  | vertex (corner : Corner) (axis : Axis)
  /-- A float-encoded vertex coordinate (R148). -/
  | vertexFloat (corner : Corner) (axis : Axis)
  /-- A colour or depth iterator (R143, R144). -/
  | param (p : Param) (k : Part)
  /-- A float-encoded colour or depth iterator (R148). -/
  | paramFloat (p : Param) (k : Part)
  /-- A texture coordinate iterator (R145). -/
  | tex (p : TexParam) (k : Part)
  /-- A float-encoded texture coordinate iterator (R148). -/
  | texFloat (p : TexParam) (k : Part)
  /-- A W iterator (R146). -/
  | w (k : Part)
  /-- A float-encoded W iterator (R148). -/
  | wFloat (k : Part)
  /-- triangleCMD and ftriangleCMD (R149, R150). -/
  | triangle
  /-- nopCMD (R151). -/
  | nop
  /-- fastfillCMD (R152). -/
  | fastfill
  /-- swapbufferCMD (R153). -/
  | swap
  /-- sDrawTriCMD (R156). -/
  | setupDraw
  /-- sBeginTriCMD (R155). -/
  | setupBegin
  /-- sARGB (R147). -/
  | setupArgb
  /-- fogTable[n] (R157). -/
  | fogTable (n : Nat)
  /-- nccTable0[n], nccTable1[n] (R158). -/
  | ncc (table : Fin 2) (n : Nat)
  /-- dacData (R159). -/
  | dac
  /-- A texture-parameter register (R161). -/
  | texture
  /-- fbiInit1 to fbiInit7 (R162). -/
  | layout
  /-- fbiInit0 (R162). -/
  | layoutReset
deriving DecidableEq, Repr

/-! ## Iterators and vertices -/

/-- One part of a gradient replaced. -/
def Grad.set {w : Nat} (k : Part) (v : BitVec w) (g : Grad w) : Grad w :=
  match k with
  | .start => { g with start := v }
  | .dx => { g with dx := v }
  | .dy => { g with dy := v }

/-- A vertex coordinate replaced. -/
def setVertex (corner : Corner) (axis : Axis) (v : Half) (f : Fbi) : Fbi :=
  let put := fun (p : Vertex) => match axis with
    | .x => { p with x := v }
    | .y => { p with y := v }
  match corner with
  | .a => { f with va := put f.va }
  | .b => { f with vb := put f.vb }
  | .c => { f with vc := put f.vc }

/-- A colour or depth iterator replaced. -/
def setParam (p : Param) (k : Part) (v : Word) (f : Fbi) : Fbi :=
  match p with
  | .r => { f with r := f.r.set k v }
  | .g => { f with g := f.g.set k v }
  | .b => { f with b := f.b.set k v }
  | .a => { f with a := f.a.set k v }
  | .z => { f with z := f.z.set k v }

/-- A texture coordinate iterator of a unit replaced. -/
def setTex (p : TexParam) (k : Part) (v : DWord) (t : Tmu) : Tmu :=
  match p with
  | .s => { t with s := t.s.set k v }
  | .t => { t with t := t.t.set k v }

/-- The value of an integer colour or depth register (R143, R144). -/
def paramValue (k : Constants) (p : Param) (value : Word) : Word :=
  match p with
  | .z => value
  | _ => BitVec.ofInt 32 (sext k.colourBits (field value 0 k.colourBits))

/-- The value of a float-encoded colour or depth register (R148). -/
def paramFloatValue (k : Constants) (p : Param) (value : Word) : Word :=
  match p with
  | .z => floatToFixed 32 k.floats.depth value
  | _ => floatToFixed 32 k.floats.colour value

/-- The 14.18 register value in 16.32 (R145). -/
def texValue (value : Word) : DWord := value.signExtend 64 <<< 14

/-- The 16.16 register value in 16.32 (R146). -/
def wValue (k : Constants) (value : Word) : DWord := value.signExtend 64 <<< k.wShift

/-- The FBI changed where bank 0 is selected. -/
def onFbi (sel : Select) (change : Fbi → Fbi) (s : State) : State :=
  if sel.fbi then s.setFbi (change s.fbi) else s

/-- A W iterator of every selected sub-chip (R146, R148). -/
def setW (sel : Select) (k : Part) (v : DWord) (s : State) : State :=
  forUnits sel (fun t => { t with w := t.w.set k v }) (onFbi sel (fun f => { f with w := f.w.set k v }) s)

/-! ## Tables, DAC, sARGB -/

/-- The four bytes of a fogTable register (R54, R157). -/
def setFog (n : Nat) (value : Word) (f : Fbi) : Fbi :=
  { f with
    fogdelta := (f.fogdelta.write (2 * n) (value.extractLsb' 0 8)).write (2 * n + 1) (value.extractLsb' 16 8),
    fogblend := (f.fogblend.write (2 * n) (value.extractLsb' 8 8)).write (2 * n + 1) (value.extractLsb' 24 8) }

/-- `DAC_READ(r)` (R159, D38). -/
def dacRead (c : Config) (d : Dac) (r : Nat) : Byte :=
  if r = c.constants.dacIdRegister then c.dacRead5.getD Config.freeDacRead5 else d.reg.read r

/-- dacData (R159): a byte pushed, or a read latched. -/
def dacCommand (c : Config) (value : Word) (d : Dac) : Dac :=
  let r := DacData.index c.constants value % 8
  if DacData.read value then { d with readResult := dacRead c d r }
  else { d with reg := d.reg.write r (BitVec.ofNat 8 (DacData.data c.constants value)) }

/-- sARGB (R147): the four lanes as binary32 in the four setup colour registers. -/
def setupArgb (value : Word) (s : State) : State :=
  let s := s.setReg 0 Reg.sAlpha (floatOfNat (Argb.alpha value))
  let s := s.setReg 0 Reg.sRed (floatOfNat (Argb.red value))
  let s := s.setReg 0 Reg.sGreen (floatOfNat (Argb.green value))
  s.setReg 0 Reg.sBlue (floatOfNat (Argb.blue value))

/-! ## The side effect of a write (R130: "for each selected bank") -/

/-- The effect of a register without a command: what it leaves. -/
def RegEffect.change (e : RegEffect) (sel : Select) (value : Word) (s : State) : State :=
  match e with
  | .stored => s
  | .vertex corner axis => onFbi sel (setVertex corner axis (value.extractLsb' 0 16)) s
  | .vertexFloat corner axis => onFbi sel (setVertex corner axis
      ((floatToFixed 32 s.config.constants.vertexFrac value).extractLsb' 0 16)) s
  | .param p k => onFbi sel (setParam p k (paramValue s.config.constants p value)) s
  | .paramFloat p k => onFbi sel (setParam p k (paramFloatValue s.config.constants p value)) s
  | .tex p k => forUnits sel (setTex p k (texValue value)) s
  | .texFloat p k => forUnits sel (setTex p k (floatToFixed 64 s.config.constants.floats.tex value)) s
  | .w k => setW sel k (wValue s.config.constants value) s
  | .wFloat k => setW sel k (floatToFixed 64 s.config.constants.floats.w value) s
  | .triangle => s
  | .nop => if sel.fbi then counterReset (NopCmd.clearStats value) (NopCmd.clearTriangles value) s else s
  | .fastfill => if sel.fbi then Machine.fastfill s else s
  | .swap => if sel.fbi then swapBuffers value s else s
  | .setupDraw => s
  | .setupBegin => if sel.fbi then beginStrip s else s
  | .setupArgb => if sel.fbi then Machine.setupArgb value s else s
  | .fogTable n => onFbi sel (setFog n value) s
  | .ncc table n => forUnits sel (nccWrite s.config.constants s.isV2 table n value) s
  | .dac => if sel.fbi then { s with dac := dacCommand s.config value s.dac } else s
  | .texture => forUnits sel (fun t => { t with regdirty := true }) s
  | .layout => recomputeLayout s
  | .layoutReset =>
    let s := recomputeLayout s
    if sel.fbi && FbiInit0.graphicsReset value then counterReset true true s else s

/-- The effect of a register: the two drawing commands may stop, no other can. An effect needs the bank it acts on
to be selected (DEDUCED, unsafe for graphics_reset: notes/assumptions/21.md). -/
def RegEffect.run (e : RegEffect) (sel : Select) (value : Word) (s : State) : Answer :=
  match e with
  | .triangle => if sel.fbi then submitTriangle s else done s
  | .setupDraw => if sel.fbi then appendStrip s else done s
  | e => done (e.change sel value s)

/-- `redirect_palette(idx, value)` (R158): nothing is stored in the slot. -/
def RegEffect.redirects (e : RegEffect) (value : Word) : Bool :=
  match e with
  | .ncc _ n => redirectsPalette n value
  | _ => false

/-! ## The generic write (R130–R134) -/

/-- A write is dropped: `not_writable`, then `init_disabled` (R132, R134, R407). -/
def writeDropped (s : State) (index : Nat) : Bool :=
  !writable s.config index || (isFbiInit index && !bit s.initEnable 0)

/-- The store of R131. -/
def writeStored (index : Nat) (e : RegEffect) (sel : Select) (value : Word) (s : State) : State :=
  if e.redirects value then s else storeBanks sel index value s

/-- `REG_WR` of register `index`, whose side effect is `e`, with chip-select `chips` (R130). -/
def regWrite (index : Nat) (e : RegEffect) (chips : BitVec 4) (value : Word) (s : State) : Answer :=
  unlessFatal s fun s =>
    if writeDropped s index then drop s
    else e.run (selectOf s.config chips) value (writeStored index e (selectOf s.config chips) value s)

/-- A write to a reserved index to which `ACCESS` gives no W (R31, R132; DEDUCED:
notes/assumptions/22.md). -/
def reservedWrite (s : State) : Answer := unlessFatal s drop

/-! ## The effect of an index (R30, R108) -/

/-- 0x00–0x1F: status, intrCtrl, the vertices and the integer iterators. -/
def effectRow0 : List RegEffect :=
  [.stored, .stored, .vertex .a .x, .vertex .a .y, .vertex .b .x, .vertex .b .y, .vertex .c .x, .vertex .c .y,
   .param .r .start, .param .g .start, .param .b .start, .param .z .start, .param .a .start, .tex .s .start,
   .tex .t .start, .w .start,
   .param .r .dx, .param .g .dx, .param .b .dx, .param .z .dx, .param .a .dx, .tex .s .dx, .tex .t .dx, .w .dx,
   .param .r .dy, .param .g .dy, .param .b .dy, .param .z .dy, .param .a .dy, .tex .s .dy, .tex .t .dy, .w .dy]

/-- 0x20–0x3F: triangleCMD, the float-encoded vertices and iterators. -/
def effectRow1 : List RegEffect :=
  [.triangle, .stored, .vertexFloat .a .x, .vertexFloat .a .y, .vertexFloat .b .x, .vertexFloat .b .y,
   .vertexFloat .c .x, .vertexFloat .c .y,
   .paramFloat .r .start, .paramFloat .g .start, .paramFloat .b .start, .paramFloat .z .start,
   .paramFloat .a .start, .texFloat .s .start, .texFloat .t .start, .wFloat .start,
   .paramFloat .r .dx, .paramFloat .g .dx, .paramFloat .b .dx, .paramFloat .z .dx, .paramFloat .a .dx,
   .texFloat .s .dx, .texFloat .t .dx, .wFloat .dx,
   .paramFloat .r .dy, .paramFloat .g .dy, .paramFloat .b .dy, .paramFloat .z .dy, .paramFloat .a .dy,
   .texFloat .s .dy, .texFloat .t .dy, .wFloat .dy]

/-- 0x40–0x4F: ftriangleCMD, the modes, nopCMD, fastfillCMD, swapbufferCMD, the colours, userIntrCMD. -/
def effectRow2 : List RegEffect :=
  [.triangle, .stored, .stored, .stored, .stored, .stored, .stored, .stored, .nop, .fastfill, .swap, .stored,
   .stored, .stored, .stored, .stored]

/-- 0x80–0x97: the init and video registers. -/
def effectRow4 : List RegEffect :=
  [.layout, .stored, .stored, .stored, .layoutReset, .layout, .layout, .layout, .stored, .stored, .stored, .dac,
   .stored, .stored, .stored, .stored, .stored, .layout, .layout, .layout, .stored, .stored, .stored, .stored]

/-- The side effect of register `index`. -/
def effectOf (index : Nat) : RegEffect :=
  if index < 0x20 then effectRow0.getD index .stored
  else if index < 0x40 then effectRow1.getD (index - 0x20) .stored
  else if index < 0x50 then effectRow2.getD (index - 0x40) .stored
  else if index < 0x58 then .stored
  else if index < 0x78 then .fogTable (index - 0x58)
  else if index < 0x80 then .stored
  else if index < 0x98 then effectRow4.getD (index - 0x80) .stored
  else if index = 0x9B then .setupArgb
  else if index = 0xA8 then .setupDraw
  else if index = 0xA9 then .setupBegin
  else if index < 0xC0 then .stored
  else if index ≤ 0xC6 then .texture
  else if index < Reg.nccTable0 then .stored
  else if index < Reg.nccTable1 then .ncc 0 (index - Reg.nccTable0)
  else if index ≤ 0xE0 then .ncc 1 (index - Reg.nccTable1)
  else .stored

/-- `REG_WR(offset, value)` (R130): the effective index is found before any other step (R137). -/
def busWrite (offset value : Word) (s : State) : Answer :=
  let index := effectiveIndex s offset
  regWrite index (effectOf index) (offset.extractLsb' 8 4) value s

/-! ## The read path (R139, R140, R160, R62) -/

/-- `status_value()` (R62) with the retrace bit that was drawn. -/
def statusValue (f : Fbi) (retrace : Bool) : Word :=
  0x0FFFF03F ||| BitVec.ofNat 32 (f.frontbuf.val <<< 10) ||| (if retrace then 0x40 else 0)

/-- A statistics register under `STAT_BITS` (R140, D19). -/
def statMask (c : Config) : Word := BitVec.ofNat 32 (2 ^ c.statBits - 1)

/-- The read of a texture-only register (R102, D41): the lowest selected present texture bank. Where none is
selected the rules name no bank, and the value is a free one. -/
def textureRead (sel : Select) (index : Nat) (s : State) : Answer :=
  if sel.tmu0 then answer (s.reg 1 index) s
  else if sel.tmu1 then answer (s.reg 2 index) s
  else answer (Config.drawUnselected s.draws) s.drawn

/-- The read of a readable register (R139). -/
def readValue (index : Nat) (chips : BitVec 4) (s : State) : Answer :=
  if index = Reg.status then answer (statusValue s.fbi (Config.drawRetrace s.draws)) s.drawn
  else if Reg.fbiPixelsIn ≤ index ∧ index ≤ Reg.fbiPixelsOut then
    let s := foldStats s
    answer (s.reg 0 index &&& statMask s.config) s
  else if index = Reg.fbiTrianglesOut then answer (s.reg 0 index &&& statMask s.config) s
  else if readsDac s index then answer (s.dac.readResult.setWidth 32) s
  else if index = Reg.vRetrace ∨ index = Reg.hvRetrace then answer (Config.drawTiming s.draws) s.drawn
  else if textureOnly index then textureRead (selectOf s.config chips) index s
  else answer (s.reg 0 index) s

/-- `REG_RD` of register `index` (R139): all-ones where it is not readable (R409). -/
def regRead (index : Nat) (chips : BitVec 4) (s : State) : Answer :=
  unlessFatal s fun s =>
    if readable s.config index then readValue index chips s else answer 0xFFFFFFFF s

/-- `REG_RD(offset)` (R139). -/
def busRead (offset : Word) (s : State) : Answer :=
  regRead (effectiveIndex s offset) (offset.extractLsb' 8 4) s

end Sys2Proof.Machine
end

