-- ==== Sys2Proof/Machine/Commands.lean ====
section
/-! DEFINITION. The meanings of the command registers but dacData (40_register_bus R149–R156):
each is the one write path of R130 at its index, with its own side effect. -/

namespace Sys2Proof.Machine

open Sys2Proof

/-- triangleCMD: submit the triangle (R149). -/
def execTriangleCMD (chips : BitVec 4) (value : Word) (s : State) : Answer :=
  regWrite 0x20 .triangle chips value s

/-- ftriangleCMD: submit the triangle (R150). -/
def execFtriangleCMD (chips : BitVec 4) (value : Word) (s : State) : Answer :=
  regWrite 0x40 .triangle chips value s

/-- nopCMD: the counter reset (R151). -/
def execNopCMD (chips : BitVec 4) (value : Word) (s : State) : Answer :=
  regWrite 0x48 .nop chips value s

/-- fastfillCMD: fill the clip rectangle (R152). -/
def execFastfillCMD (chips : BitVec 4) (value : Word) (s : State) : Answer :=
  regWrite 0x49 .fastfill chips value s

/-- swapbufferCMD: swap the buffers (R153). -/
def execSwapbufferCMD (chips : BitVec 4) (value : Word) (s : State) : Answer :=
  regWrite 0x4A .swap chips value s

/-- userIntrCMD (V2): stored; no interrupt output, so no action (R154). -/
def execUserIntrCMD (chips : BitVec 4) (value : Word) (s : State) : Answer :=
  regWrite 0x4F .stored chips value s

/-- sDrawTriCMD (V2): append a setup vertex, and draw from the third on (R156). -/
def execSDrawTriCMD (chips : BitVec 4) (value : Word) (s : State) : Answer :=
  regWrite 0xA8 .setupDraw chips value s

/-- sBeginTriCMD (V2): begin a strip or fan (R155). -/
def execSBeginTriCMD (chips : BitVec 4) (value : Word) (s : State) : Answer :=
  regWrite 0xA9 .setupBegin chips value s

end Sys2Proof.Machine
end

