-- ==== Sys2Proof/Machine/ComputedReads.lean ====
section
/-! DEFINITION. The meanings of the computed register reads (40_register_bus R139, R140, R160): each is the one
read path of R139 at its index. -/

namespace Sys2Proof.Machine

open Sys2Proof

/-- Read of status: the status word, its retrace bit drawn (10_state R62). -/
def execStatusRead (s : State) : Answer := regRead 0x00 0 s

/-- Read of fbiInit2: the stored word, or the DAC read result while init_enable[2] is 1 (R160). -/
def execFbiInit2Read (s : State) : Answer := regRead 0x86 0 s

/-- Read of fbiPixelsIn: the statistics are folded, then read (R140). -/
def execFbiPixelsInRead (s : State) : Answer := regRead 0x53 0 s

/-- Read of fbiChromaFail: the statistics are folded, then read (R140). -/
def execFbiChromaFailRead (s : State) : Answer := regRead 0x54 0 s

/-- Read of fbiZfuncFail: the statistics are folded, then read (R140). -/
def execFbiZfuncFailRead (s : State) : Answer := regRead 0x55 0 s

/-- Read of fbiAfuncFail: the statistics are folded, then read (R140). -/
def execFbiAfuncFailRead (s : State) : Answer := regRead 0x56 0 s

/-- Read of fbiPixelsOut: the statistics are folded, then read (R140). -/
def execFbiPixelsOutRead (s : State) : Answer := regRead 0x57 0 s

/-- Read of vRetrace: a draw (R446). -/
def execVRetraceRead (s : State) : Answer := regRead 0x81 0 s

/-- Read of hvRetrace: a draw, V2 (R446). -/
def execHvRetraceRead (s : State) : Answer := regRead 0x90 0 s

/-- Read of fbiSwapHistory: the swap history, V2 (46_buffers R387). -/
def execFbiSwapHistoryRead (s : State) : Answer := regRead 0x96 0 s

/-- Read of fbiTrianglesOut: the triangle count, V2 (42_setup_engine R236). -/
def execFbiTrianglesOutRead (s : State) : Answer := regRead 0x97 0 s

end Sys2Proof.Machine
end

