-- ==== Sys2Proof/Machine/FloatIterators.lean ====
section
/-! DEFINITION. The meanings of the float-encoded iterator registers (40_register_bus R148):
each is the one write path of R130 at its index, with its own side effect. -/

namespace Sys2Proof.Machine

open Sys2Proof

/-- fstartR: the binary32 form of an iterator (R148). -/
def execFstartR (chips : BitVec 4) (value : Word) (s : State) : Answer :=
  regWrite 0x28 (.paramFloat .r .start) chips value s

/-- fstartG: the binary32 form of an iterator (R148). -/
def execFstartG (chips : BitVec 4) (value : Word) (s : State) : Answer :=
  regWrite 0x29 (.paramFloat .g .start) chips value s

/-- fstartB: the binary32 form of an iterator (R148). -/
def execFstartB (chips : BitVec 4) (value : Word) (s : State) : Answer :=
  regWrite 0x2A (.paramFloat .b .start) chips value s

/-- fstartZ: the binary32 form of an iterator (R148). -/
def execFstartZ (chips : BitVec 4) (value : Word) (s : State) : Answer :=
  regWrite 0x2B (.paramFloat .z .start) chips value s

/-- fstartA: the binary32 form of an iterator (R148). -/
def execFstartA (chips : BitVec 4) (value : Word) (s : State) : Answer :=
  regWrite 0x2C (.paramFloat .a .start) chips value s

/-- fstartS: the binary32 form of an iterator (R148). -/
def execFstartS (chips : BitVec 4) (value : Word) (s : State) : Answer :=
  regWrite 0x2D (.texFloat .s .start) chips value s

/-- fstartT: the binary32 form of an iterator (R148). -/
def execFstartT (chips : BitVec 4) (value : Word) (s : State) : Answer :=
  regWrite 0x2E (.texFloat .t .start) chips value s

/-- fstartW: the binary32 form of an iterator (R148). -/
def execFstartW (chips : BitVec 4) (value : Word) (s : State) : Answer :=
  regWrite 0x2F (.wFloat .start) chips value s

/-- fdRdX: the binary32 form of an iterator (R148). -/
def execFdRdX (chips : BitVec 4) (value : Word) (s : State) : Answer :=
  regWrite 0x30 (.paramFloat .r .dx) chips value s

/-- fdGdX: the binary32 form of an iterator (R148). -/
def execFdGdX (chips : BitVec 4) (value : Word) (s : State) : Answer :=
  regWrite 0x31 (.paramFloat .g .dx) chips value s

/-- fdBdX: the binary32 form of an iterator (R148). -/
def execFdBdX (chips : BitVec 4) (value : Word) (s : State) : Answer :=
  regWrite 0x32 (.paramFloat .b .dx) chips value s

/-- fdZdX: the binary32 form of an iterator (R148). -/
def execFdZdX (chips : BitVec 4) (value : Word) (s : State) : Answer :=
  regWrite 0x33 (.paramFloat .z .dx) chips value s

/-- fdAdX: the binary32 form of an iterator (R148). -/
def execFdAdX (chips : BitVec 4) (value : Word) (s : State) : Answer :=
  regWrite 0x34 (.paramFloat .a .dx) chips value s

/-- fdSdX: the binary32 form of an iterator (R148). -/
def execFdSdX (chips : BitVec 4) (value : Word) (s : State) : Answer :=
  regWrite 0x35 (.texFloat .s .dx) chips value s

/-- fdTdX: the binary32 form of an iterator (R148). -/
def execFdTdX (chips : BitVec 4) (value : Word) (s : State) : Answer :=
  regWrite 0x36 (.texFloat .t .dx) chips value s

/-- fdWdX: the binary32 form of an iterator (R148). -/
def execFdWdX (chips : BitVec 4) (value : Word) (s : State) : Answer :=
  regWrite 0x37 (.wFloat .dx) chips value s

/-- fdRdY: the binary32 form of an iterator (R148). -/
def execFdRdY (chips : BitVec 4) (value : Word) (s : State) : Answer :=
  regWrite 0x38 (.paramFloat .r .dy) chips value s

/-- fdGdY: the binary32 form of an iterator (R148). -/
def execFdGdY (chips : BitVec 4) (value : Word) (s : State) : Answer :=
  regWrite 0x39 (.paramFloat .g .dy) chips value s

/-- fdBdY: the binary32 form of an iterator (R148). -/
def execFdBdY (chips : BitVec 4) (value : Word) (s : State) : Answer :=
  regWrite 0x3A (.paramFloat .b .dy) chips value s

/-- fdZdY: the binary32 form of an iterator (R148). -/
def execFdZdY (chips : BitVec 4) (value : Word) (s : State) : Answer :=
  regWrite 0x3B (.paramFloat .z .dy) chips value s

/-- fdAdY: the binary32 form of an iterator (R148). -/
def execFdAdY (chips : BitVec 4) (value : Word) (s : State) : Answer :=
  regWrite 0x3C (.paramFloat .a .dy) chips value s

/-- fdSdY: the binary32 form of an iterator (R148). -/
def execFdSdY (chips : BitVec 4) (value : Word) (s : State) : Answer :=
  regWrite 0x3D (.texFloat .s .dy) chips value s

/-- fdTdY: the binary32 form of an iterator (R148). -/
def execFdTdY (chips : BitVec 4) (value : Word) (s : State) : Answer :=
  regWrite 0x3E (.texFloat .t .dy) chips value s

/-- fdWdY: the binary32 form of an iterator (R148). -/
def execFdWdY (chips : BitVec 4) (value : Word) (s : State) : Answer :=
  regWrite 0x3F (.wFloat .dy) chips value s

end Sys2Proof.Machine
end

