-- ==== Sys2Proof/Machine/FogTable.lean ====
section
/-! DEFINITION. The meanings of the fog table (40_register_bus R157):
each is the one write path of R130 at its index, with its own side effect. -/

namespace Sys2Proof.Machine

open Sys2Proof

/-- fogTable[0]: two fog table entries (R157). -/
def execFogTable0 (chips : BitVec 4) (value : Word) (s : State) : Answer :=
  regWrite 0x58 (.fogTable 0) chips value s

/-- fogTable[1]: two fog table entries (R157). -/
def execFogTable1 (chips : BitVec 4) (value : Word) (s : State) : Answer :=
  regWrite 0x59 (.fogTable 1) chips value s

/-- fogTable[2]: two fog table entries (R157). -/
def execFogTable2 (chips : BitVec 4) (value : Word) (s : State) : Answer :=
  regWrite 0x5A (.fogTable 2) chips value s

/-- fogTable[3]: two fog table entries (R157). -/
def execFogTable3 (chips : BitVec 4) (value : Word) (s : State) : Answer :=
  regWrite 0x5B (.fogTable 3) chips value s

/-- fogTable[4]: two fog table entries (R157). -/
def execFogTable4 (chips : BitVec 4) (value : Word) (s : State) : Answer :=
  regWrite 0x5C (.fogTable 4) chips value s

/-- fogTable[5]: two fog table entries (R157). -/
def execFogTable5 (chips : BitVec 4) (value : Word) (s : State) : Answer :=
  regWrite 0x5D (.fogTable 5) chips value s

/-- fogTable[6]: two fog table entries (R157). -/
def execFogTable6 (chips : BitVec 4) (value : Word) (s : State) : Answer :=
  regWrite 0x5E (.fogTable 6) chips value s

/-- fogTable[7]: two fog table entries (R157). -/
def execFogTable7 (chips : BitVec 4) (value : Word) (s : State) : Answer :=
  regWrite 0x5F (.fogTable 7) chips value s

/-- fogTable[8]: two fog table entries (R157). -/
def execFogTable8 (chips : BitVec 4) (value : Word) (s : State) : Answer :=
  regWrite 0x60 (.fogTable 8) chips value s

/-- fogTable[9]: two fog table entries (R157). -/
def execFogTable9 (chips : BitVec 4) (value : Word) (s : State) : Answer :=
  regWrite 0x61 (.fogTable 9) chips value s

/-- fogTable[10]: two fog table entries (R157). -/
def execFogTable10 (chips : BitVec 4) (value : Word) (s : State) : Answer :=
  regWrite 0x62 (.fogTable 10) chips value s

/-- fogTable[11]: two fog table entries (R157). -/
def execFogTable11 (chips : BitVec 4) (value : Word) (s : State) : Answer :=
  regWrite 0x63 (.fogTable 11) chips value s

/-- fogTable[12]: two fog table entries (R157). -/
def execFogTable12 (chips : BitVec 4) (value : Word) (s : State) : Answer :=
  regWrite 0x64 (.fogTable 12) chips value s

/-- fogTable[13]: two fog table entries (R157). -/
def execFogTable13 (chips : BitVec 4) (value : Word) (s : State) : Answer :=
  regWrite 0x65 (.fogTable 13) chips value s

/-- fogTable[14]: two fog table entries (R157). -/
def execFogTable14 (chips : BitVec 4) (value : Word) (s : State) : Answer :=
  regWrite 0x66 (.fogTable 14) chips value s

/-- fogTable[15]: two fog table entries (R157). -/
def execFogTable15 (chips : BitVec 4) (value : Word) (s : State) : Answer :=
  regWrite 0x67 (.fogTable 15) chips value s

/-- fogTable[16]: two fog table entries (R157). -/
def execFogTable16 (chips : BitVec 4) (value : Word) (s : State) : Answer :=
  regWrite 0x68 (.fogTable 16) chips value s

/-- fogTable[17]: two fog table entries (R157). -/
def execFogTable17 (chips : BitVec 4) (value : Word) (s : State) : Answer :=
  regWrite 0x69 (.fogTable 17) chips value s

/-- fogTable[18]: two fog table entries (R157). -/
def execFogTable18 (chips : BitVec 4) (value : Word) (s : State) : Answer :=
  regWrite 0x6A (.fogTable 18) chips value s

/-- fogTable[19]: two fog table entries (R157). -/
def execFogTable19 (chips : BitVec 4) (value : Word) (s : State) : Answer :=
  regWrite 0x6B (.fogTable 19) chips value s

/-- fogTable[20]: two fog table entries (R157). -/
def execFogTable20 (chips : BitVec 4) (value : Word) (s : State) : Answer :=
  regWrite 0x6C (.fogTable 20) chips value s

/-- fogTable[21]: two fog table entries (R157). -/
def execFogTable21 (chips : BitVec 4) (value : Word) (s : State) : Answer :=
  regWrite 0x6D (.fogTable 21) chips value s

/-- fogTable[22]: two fog table entries (R157). -/
def execFogTable22 (chips : BitVec 4) (value : Word) (s : State) : Answer :=
  regWrite 0x6E (.fogTable 22) chips value s

/-- fogTable[23]: two fog table entries (R157). -/
def execFogTable23 (chips : BitVec 4) (value : Word) (s : State) : Answer :=
  regWrite 0x6F (.fogTable 23) chips value s

/-- fogTable[24]: two fog table entries (R157). -/
def execFogTable24 (chips : BitVec 4) (value : Word) (s : State) : Answer :=
  regWrite 0x70 (.fogTable 24) chips value s

/-- fogTable[25]: two fog table entries (R157). -/
def execFogTable25 (chips : BitVec 4) (value : Word) (s : State) : Answer :=
  regWrite 0x71 (.fogTable 25) chips value s

/-- fogTable[26]: two fog table entries (R157). -/
def execFogTable26 (chips : BitVec 4) (value : Word) (s : State) : Answer :=
  regWrite 0x72 (.fogTable 26) chips value s

/-- fogTable[27]: two fog table entries (R157). -/
def execFogTable27 (chips : BitVec 4) (value : Word) (s : State) : Answer :=
  regWrite 0x73 (.fogTable 27) chips value s

/-- fogTable[28]: two fog table entries (R157). -/
def execFogTable28 (chips : BitVec 4) (value : Word) (s : State) : Answer :=
  regWrite 0x74 (.fogTable 28) chips value s

/-- fogTable[29]: two fog table entries (R157). -/
def execFogTable29 (chips : BitVec 4) (value : Word) (s : State) : Answer :=
  regWrite 0x75 (.fogTable 29) chips value s

/-- fogTable[30]: two fog table entries (R157). -/
def execFogTable30 (chips : BitVec 4) (value : Word) (s : State) : Answer :=
  regWrite 0x76 (.fogTable 30) chips value s

/-- fogTable[31]: two fog table entries (R157). -/
def execFogTable31 (chips : BitVec 4) (value : Word) (s : State) : Answer :=
  regWrite 0x77 (.fogTable 31) chips value s

end Sys2Proof.Machine
end

