-- ==== Sys2Proof/Machine/InitRegs.lean ====
section
/-! DEFINITION. The meanings of the init-gated registers (40_register_bus R134, R162):
each is the one write path of R130 at its index, with its own side effect. -/

namespace Sys2Proof.Machine

open Sys2Proof

/-- fbiInit4: init-gated; the layout is recomputed (R162). -/
def execFbiInit4 (chips : BitVec 4) (value : Word) (s : State) : Answer :=
  regWrite 0x80 .layout chips value s

/-- fbiInit0: init-gated; the layout, and the counters under graphics_reset (R162). -/
def execFbiInit0 (chips : BitVec 4) (value : Word) (s : State) : Answer :=
  regWrite 0x84 .layoutReset chips value s

/-- fbiInit1: init-gated; the layout is recomputed (R162). -/
def execFbiInit1 (chips : BitVec 4) (value : Word) (s : State) : Answer :=
  regWrite 0x85 .layout chips value s

/-- fbiInit2: init-gated; the layout is recomputed (R162). -/
def execFbiInit2 (chips : BitVec 4) (value : Word) (s : State) : Answer :=
  regWrite 0x86 .layout chips value s

/-- fbiInit3: init-gated; the layout is recomputed (R162). -/
def execFbiInit3 (chips : BitVec 4) (value : Word) (s : State) : Answer :=
  regWrite 0x87 .layout chips value s

/-- fbiInit5 (V2): init-gated; the layout is recomputed (R162). -/
def execFbiInit5 (chips : BitVec 4) (value : Word) (s : State) : Answer :=
  regWrite 0x91 .layout chips value s

/-- fbiInit6 (V2): init-gated; the layout is recomputed (R162). -/
def execFbiInit6 (chips : BitVec 4) (value : Word) (s : State) : Answer :=
  regWrite 0x92 .layout chips value s

/-- fbiInit7 (V2): init-gated; the layout is recomputed (R162). -/
def execFbiInit7 (chips : BitVec 4) (value : Word) (s : State) : Answer :=
  regWrite 0x93 .layout chips value s

end Sys2Proof.Machine
end

