-- ==== Sys2Proof/Machine/Iterators.lean ====
section
/-! DEFINITION. The meanings of the integer iterator registers (40_register_bus R143–R146):
each is the one write path of R130 at its index, with its own side effect. -/

namespace Sys2Proof.Machine

open Sys2Proof

/-- startR: a 12.12 colour iterator (R143). -/
def execStartR (chips : BitVec 4) (value : Word) (s : State) : Answer :=
  regWrite 0x08 (.param .r .start) chips value s

/-- startG: a 12.12 colour iterator (R143). -/
def execStartG (chips : BitVec 4) (value : Word) (s : State) : Answer :=
  regWrite 0x09 (.param .g .start) chips value s

/-- startB: a 12.12 colour iterator (R143). -/
def execStartB (chips : BitVec 4) (value : Word) (s : State) : Answer :=
  regWrite 0x0A (.param .b .start) chips value s

/-- startZ: the 20.12 depth iterator (R144). -/
def execStartZ (chips : BitVec 4) (value : Word) (s : State) : Answer :=
  regWrite 0x0B (.param .z .start) chips value s

/-- startA: a 12.12 colour iterator (R143). -/
def execStartA (chips : BitVec 4) (value : Word) (s : State) : Answer :=
  regWrite 0x0C (.param .a .start) chips value s

/-- startS: a 14.18 texture coordinate iterator of the texture banks (R145). -/
def execStartS (chips : BitVec 4) (value : Word) (s : State) : Answer :=
  regWrite 0x0D (.tex .s .start) chips value s

/-- startT: a 14.18 texture coordinate iterator of the texture banks (R145). -/
def execStartT (chips : BitVec 4) (value : Word) (s : State) : Answer :=
  regWrite 0x0E (.tex .t .start) chips value s

/-- startW: the W iterator, 16.16 to 16.32 (R146). -/
def execStartW (chips : BitVec 4) (value : Word) (s : State) : Answer :=
  regWrite 0x0F (.w .start) chips value s

/-- dRdX: a 12.12 colour iterator (R143). -/
def execDRdX (chips : BitVec 4) (value : Word) (s : State) : Answer :=
  regWrite 0x10 (.param .r .dx) chips value s

/-- dGdX: a 12.12 colour iterator (R143). -/
def execDGdX (chips : BitVec 4) (value : Word) (s : State) : Answer :=
  regWrite 0x11 (.param .g .dx) chips value s

/-- dBdX: a 12.12 colour iterator (R143). -/
def execDBdX (chips : BitVec 4) (value : Word) (s : State) : Answer :=
  regWrite 0x12 (.param .b .dx) chips value s

/-- dZdX: the 20.12 depth iterator (R144). -/
def execDZdX (chips : BitVec 4) (value : Word) (s : State) : Answer :=
  regWrite 0x13 (.param .z .dx) chips value s

/-- dAdX: a 12.12 colour iterator (R143). -/
def execDAdX (chips : BitVec 4) (value : Word) (s : State) : Answer :=
  regWrite 0x14 (.param .a .dx) chips value s

/-- dSdX: a 14.18 texture coordinate iterator of the texture banks (R145). -/
def execDSdX (chips : BitVec 4) (value : Word) (s : State) : Answer :=
  regWrite 0x15 (.tex .s .dx) chips value s

/-- dTdX: a 14.18 texture coordinate iterator of the texture banks (R145). -/
def execDTdX (chips : BitVec 4) (value : Word) (s : State) : Answer :=
  regWrite 0x16 (.tex .t .dx) chips value s

/-- dWdX: the W iterator, 16.16 to 16.32 (R146). -/
def execDWdX (chips : BitVec 4) (value : Word) (s : State) : Answer :=
  regWrite 0x17 (.w .dx) chips value s

/-- dRdY: a 12.12 colour iterator (R143). -/
def execDRdY (chips : BitVec 4) (value : Word) (s : State) : Answer :=
  regWrite 0x18 (.param .r .dy) chips value s

/-- dGdY: a 12.12 colour iterator (R143). -/
def execDGdY (chips : BitVec 4) (value : Word) (s : State) : Answer :=
  regWrite 0x19 (.param .g .dy) chips value s

/-- dBdY: a 12.12 colour iterator (R143). -/
def execDBdY (chips : BitVec 4) (value : Word) (s : State) : Answer :=
  regWrite 0x1A (.param .b .dy) chips value s

/-- dZdY: the 20.12 depth iterator (R144). -/
def execDZdY (chips : BitVec 4) (value : Word) (s : State) : Answer :=
  regWrite 0x1B (.param .z .dy) chips value s

/-- dAdY: a 12.12 colour iterator (R143). -/
def execDAdY (chips : BitVec 4) (value : Word) (s : State) : Answer :=
  regWrite 0x1C (.param .a .dy) chips value s

/-- dSdY: a 14.18 texture coordinate iterator of the texture banks (R145). -/
def execDSdY (chips : BitVec 4) (value : Word) (s : State) : Answer :=
  regWrite 0x1D (.tex .s .dy) chips value s

/-- dTdY: a 14.18 texture coordinate iterator of the texture banks (R145). -/
def execDTdY (chips : BitVec 4) (value : Word) (s : State) : Answer :=
  regWrite 0x1E (.tex .t .dy) chips value s

/-- dWdY: the W iterator, 16.16 to 16.32 (R146). -/
def execDWdY (chips : BitVec 4) (value : Word) (s : State) : Answer :=
  regWrite 0x1F (.w .dy) chips value s

end Sys2Proof.Machine
end

