-- ==== Sys2Proof/Machine/Modes.lean ====
section
/-! DEFINITION. The meanings of the mode, colour, clip, stipple and statistics registers (40_register_bus R132, R163):
each is the one write path of R130 at its index, with its own side effect. -/

namespace Sys2Proof.Machine

open Sys2Proof

/-- status: read-only: the write is dropped (R132). -/
def execStatus (chips : BitVec 4) (value : Word) (s : State) : Answer :=
  regWrite 0x00 .stored chips value s

/-- intrCtrl (V2): stored (R163). -/
def execIntrCtrl (chips : BitVec 4) (value : Word) (s : State) : Answer :=
  regWrite 0x01 .stored chips value s

/-- fbzColorPath: stored (R163). -/
def execFbzColorPath (chips : BitVec 4) (value : Word) (s : State) : Answer :=
  regWrite 0x41 .stored chips value s

/-- fogMode: stored (R163). -/
def execFogMode (chips : BitVec 4) (value : Word) (s : State) : Answer :=
  regWrite 0x42 .stored chips value s

/-- alphaMode: stored (R163). -/
def execAlphaMode (chips : BitVec 4) (value : Word) (s : State) : Answer :=
  regWrite 0x43 .stored chips value s

/-- fbzMode: stored (R163). -/
def execFbzMode (chips : BitVec 4) (value : Word) (s : State) : Answer :=
  regWrite 0x44 .stored chips value s

/-- lfbMode: stored (R163). -/
def execLfbMode (chips : BitVec 4) (value : Word) (s : State) : Answer :=
  regWrite 0x45 .stored chips value s

/-- clipLeftRight: stored (R163). -/
def execClipLeftRight (chips : BitVec 4) (value : Word) (s : State) : Answer :=
  regWrite 0x46 .stored chips value s

/-- clipLowYHighY: stored (R163). -/
def execClipLowYHighY (chips : BitVec 4) (value : Word) (s : State) : Answer :=
  regWrite 0x47 .stored chips value s

/-- fogColor: stored (R163). -/
def execFogColor (chips : BitVec 4) (value : Word) (s : State) : Answer :=
  regWrite 0x4B .stored chips value s

/-- zaColor: stored (R163). -/
def execZaColor (chips : BitVec 4) (value : Word) (s : State) : Answer :=
  regWrite 0x4C .stored chips value s

/-- chromaKey: stored (R163). -/
def execChromaKey (chips : BitVec 4) (value : Word) (s : State) : Answer :=
  regWrite 0x4D .stored chips value s

/-- chromaRange (V2): stored (R163). -/
def execChromaRange (chips : BitVec 4) (value : Word) (s : State) : Answer :=
  regWrite 0x4E .stored chips value s

/-- stipple: stored (R163). -/
def execStipple (chips : BitVec 4) (value : Word) (s : State) : Answer :=
  regWrite 0x50 .stored chips value s

/-- color0: stored (R163). -/
def execColor0 (chips : BitVec 4) (value : Word) (s : State) : Answer :=
  regWrite 0x51 .stored chips value s

/-- color1: stored (R163). -/
def execColor1 (chips : BitVec 4) (value : Word) (s : State) : Answer :=
  regWrite 0x52 .stored chips value s

/-- fbiPixelsIn: read-only: the write is dropped (R132). -/
def execFbiPixelsIn (chips : BitVec 4) (value : Word) (s : State) : Answer :=
  regWrite 0x53 .stored chips value s

/-- fbiChromaFail: read-only: the write is dropped (R132). -/
def execFbiChromaFail (chips : BitVec 4) (value : Word) (s : State) : Answer :=
  regWrite 0x54 .stored chips value s

/-- fbiZfuncFail: read-only: the write is dropped (R132). -/
def execFbiZfuncFail (chips : BitVec 4) (value : Word) (s : State) : Answer :=
  regWrite 0x55 .stored chips value s

/-- fbiAfuncFail: read-only: the write is dropped (R132). -/
def execFbiAfuncFail (chips : BitVec 4) (value : Word) (s : State) : Answer :=
  regWrite 0x56 .stored chips value s

/-- fbiPixelsOut: read-only: the write is dropped (R132). -/
def execFbiPixelsOut (chips : BitVec 4) (value : Word) (s : State) : Answer :=
  regWrite 0x57 .stored chips value s

end Sys2Proof.Machine
end

