-- ==== Sys2Proof/Machine/Reserved.lean ====
section
/-! DEFINITION. The meanings of the reserved indices, whose write is dropped (40_register_bus R132, 30_encoding R109):
each is the write that no ACCESS right lets in. -/

namespace Sys2Proof.Machine

open Sys2Proof

/-- reserved_0x21: no register: the write is dropped (R132). -/
def execReserved21 (s : State) : Answer := reservedWrite s

/-- reserved_0x94: no register: the write is dropped (R132). -/
def execReserved94 (s : State) : Answer := reservedWrite s

/-- reserved_0x95: no register: the write is dropped (R132). -/
def execReserved95 (s : State) : Answer := reservedWrite s

/-- reserved_0xE1: no register: the write is dropped (R132). -/
def execReservedE1 (s : State) : Answer := reservedWrite s

/-- reserved_0xE2: no register: the write is dropped (R132). -/
def execReservedE2 (s : State) : Answer := reservedWrite s

/-- reserved_0xE3: no register: the write is dropped (R132). -/
def execReservedE3 (s : State) : Answer := reservedWrite s

/-- reserved_0xE4: no register: the write is dropped (R132). -/
def execReservedE4 (s : State) : Answer := reservedWrite s

/-- reserved_0xE5: no register: the write is dropped (R132). -/
def execReservedE5 (s : State) : Answer := reservedWrite s

/-- reserved_0xE6: no register: the write is dropped (R132). -/
def execReservedE6 (s : State) : Answer := reservedWrite s

/-- reserved_0xE7: no register: the write is dropped (R132). -/
def execReservedE7 (s : State) : Answer := reservedWrite s

/-- reserved_0xE8: no register: the write is dropped (R132). -/
def execReservedE8 (s : State) : Answer := reservedWrite s

/-- reserved_0xE9: no register: the write is dropped (R132). -/
def execReservedE9 (s : State) : Answer := reservedWrite s

/-- reserved_0xEA: no register: the write is dropped (R132). -/
def execReservedEA (s : State) : Answer := reservedWrite s

/-- reserved_0xEB: no register: the write is dropped (R132). -/
def execReservedEB (s : State) : Answer := reservedWrite s

/-- reserved_0xEC: no register: the write is dropped (R132). -/
def execReservedEC (s : State) : Answer := reservedWrite s

/-- reserved_0xED: no register: the write is dropped (R132). -/
def execReservedED (s : State) : Answer := reservedWrite s

/-- reserved_0xEE: no register: the write is dropped (R132). -/
def execReservedEE (s : State) : Answer := reservedWrite s

/-- reserved_0xEF: no register: the write is dropped (R132). -/
def execReservedEF (s : State) : Answer := reservedWrite s

/-- reserved_0xF0: no register: the write is dropped (R132). -/
def execReservedF0 (s : State) : Answer := reservedWrite s

/-- reserved_0xF1: no register: the write is dropped (R132). -/
def execReservedF1 (s : State) : Answer := reservedWrite s

/-- reserved_0xF2: no register: the write is dropped (R132). -/
def execReservedF2 (s : State) : Answer := reservedWrite s

/-- reserved_0xF3: no register: the write is dropped (R132). -/
def execReservedF3 (s : State) : Answer := reservedWrite s

/-- reserved_0xF4: no register: the write is dropped (R132). -/
def execReservedF4 (s : State) : Answer := reservedWrite s

/-- reserved_0xF5: no register: the write is dropped (R132). -/
def execReservedF5 (s : State) : Answer := reservedWrite s

/-- reserved_0xF6: no register: the write is dropped (R132). -/
def execReservedF6 (s : State) : Answer := reservedWrite s

/-- reserved_0xF7: no register: the write is dropped (R132). -/
def execReservedF7 (s : State) : Answer := reservedWrite s

/-- reserved_0xF8: no register: the write is dropped (R132). -/
def execReservedF8 (s : State) : Answer := reservedWrite s

/-- reserved_0xF9: no register: the write is dropped (R132). -/
def execReservedF9 (s : State) : Answer := reservedWrite s

/-- reserved_0xFA: no register: the write is dropped (R132). -/
def execReservedFA (s : State) : Answer := reservedWrite s

/-- reserved_0xFB: no register: the write is dropped (R132). -/
def execReservedFB (s : State) : Answer := reservedWrite s

/-- reserved_0xFC: no register: the write is dropped (R132). -/
def execReservedFC (s : State) : Answer := reservedWrite s

/-- reserved_0xFD: no register: the write is dropped (R132). -/
def execReservedFD (s : State) : Answer := reservedWrite s

/-- reserved_0xFE: no register: the write is dropped (R132). -/
def execReservedFE (s : State) : Answer := reservedWrite s

/-- reserved_0xFF: no register: the write is dropped (R132). -/
def execReservedFF (s : State) : Answer := reservedWrite s

end Sys2Proof.Machine
end

