-- ==== Sys2Proof/Machine/SetupRegs.lean ====
section
/-! DEFINITION. The meanings of the setup-mode registers and the blitter range (40_register_bus R147, R163, 00_scope R5):
each is the one write path of R130 at its index, with its own side effect. -/

namespace Sys2Proof.Machine

open Sys2Proof

/-- sSetupMode (V2): stored (R163). -/
def execSSetupMode (chips : BitVec 4) (value : Word) (s : State) : Answer :=
  regWrite 0x98 .stored chips value s

/-- sVx (V2): a setup-vertex attribute, stored (R147). -/
def execSVx (chips : BitVec 4) (value : Word) (s : State) : Answer :=
  regWrite 0x99 .stored chips value s

/-- sVy (V2): a setup-vertex attribute, stored (R147). -/
def execSVy (chips : BitVec 4) (value : Word) (s : State) : Answer :=
  regWrite 0x9A .stored chips value s

/-- sARGB (V2): four setup colours from packed lanes (R147). -/
def execSARGB (chips : BitVec 4) (value : Word) (s : State) : Answer :=
  regWrite 0x9B .setupArgb chips value s

/-- sRed (V2): a setup-vertex attribute, stored (R147). -/
def execSRed (chips : BitVec 4) (value : Word) (s : State) : Answer :=
  regWrite 0x9C .stored chips value s

/-- sGreen (V2): a setup-vertex attribute, stored (R147). -/
def execSGreen (chips : BitVec 4) (value : Word) (s : State) : Answer :=
  regWrite 0x9D .stored chips value s

/-- sBlue (V2): a setup-vertex attribute, stored (R147). -/
def execSBlue (chips : BitVec 4) (value : Word) (s : State) : Answer :=
  regWrite 0x9E .stored chips value s

/-- sAlpha (V2): a setup-vertex attribute, stored (R147). -/
def execSAlpha (chips : BitVec 4) (value : Word) (s : State) : Answer :=
  regWrite 0x9F .stored chips value s

/-- sVz (V2): a setup-vertex attribute, stored (R147). -/
def execSVz (chips : BitVec 4) (value : Word) (s : State) : Answer :=
  regWrite 0xA0 .stored chips value s

/-- sWb (V2): a setup-vertex attribute, stored (R147). -/
def execSWb (chips : BitVec 4) (value : Word) (s : State) : Answer :=
  regWrite 0xA1 .stored chips value s

/-- sWtmu0 (V2): a setup-vertex attribute, stored (R147). -/
def execSWtmu0 (chips : BitVec 4) (value : Word) (s : State) : Answer :=
  regWrite 0xA2 .stored chips value s

/-- sS_W0 (V2): a setup-vertex attribute, stored (R147). -/
def execSS_W0 (chips : BitVec 4) (value : Word) (s : State) : Answer :=
  regWrite 0xA3 .stored chips value s

/-- sT_W0 (V2): a setup-vertex attribute, stored (R147). -/
def execST_W0 (chips : BitVec 4) (value : Word) (s : State) : Answer :=
  regWrite 0xA4 .stored chips value s

/-- sWtmu1 (V2): a setup-vertex attribute, stored (R147). -/
def execSWtmu1 (chips : BitVec 4) (value : Word) (s : State) : Answer :=
  regWrite 0xA5 .stored chips value s

/-- sS_Wtmu1 (V2): a setup-vertex attribute, stored (R147). -/
def execSS_Wtmu1 (chips : BitVec 4) (value : Word) (s : State) : Answer :=
  regWrite 0xA6 .stored chips value s

/-- sT_Wtmu1 (V2): a setup-vertex attribute, stored (R147). -/
def execST_Wtmu1 (chips : BitVec 4) (value : Word) (s : State) : Answer :=
  regWrite 0xA7 .stored chips value s

/-- v2_0xAA: stored only under V2, dropped under V1 (R5). -/
def execV2xAA (chips : BitVec 4) (value : Word) (s : State) : Answer :=
  regWrite 0xAA .stored chips value s

/-- v2_0xAB: stored only under V2, dropped under V1 (R5). -/
def execV2xAB (chips : BitVec 4) (value : Word) (s : State) : Answer :=
  regWrite 0xAB .stored chips value s

/-- v2_0xAC: stored only under V2, dropped under V1 (R5). -/
def execV2xAC (chips : BitVec 4) (value : Word) (s : State) : Answer :=
  regWrite 0xAC .stored chips value s

/-- v2_0xAD: stored only under V2, dropped under V1 (R5). -/
def execV2xAD (chips : BitVec 4) (value : Word) (s : State) : Answer :=
  regWrite 0xAD .stored chips value s

/-- v2_0xAE: stored only under V2, dropped under V1 (R5). -/
def execV2xAE (chips : BitVec 4) (value : Word) (s : State) : Answer :=
  regWrite 0xAE .stored chips value s

/-- v2_0xAF: stored only under V2, dropped under V1 (R5). -/
def execV2xAF (chips : BitVec 4) (value : Word) (s : State) : Answer :=
  regWrite 0xAF .stored chips value s

/-- v2_0xB0: stored only under V2, dropped under V1 (R5). -/
def execV2xB0 (chips : BitVec 4) (value : Word) (s : State) : Answer :=
  regWrite 0xB0 .stored chips value s

/-- v2_0xB1: stored only under V2, dropped under V1 (R5). -/
def execV2xB1 (chips : BitVec 4) (value : Word) (s : State) : Answer :=
  regWrite 0xB1 .stored chips value s

/-- v2_0xB2: stored only under V2, dropped under V1 (R5). -/
def execV2xB2 (chips : BitVec 4) (value : Word) (s : State) : Answer :=
  regWrite 0xB2 .stored chips value s

/-- v2_0xB3: stored only under V2, dropped under V1 (R5). -/
def execV2xB3 (chips : BitVec 4) (value : Word) (s : State) : Answer :=
  regWrite 0xB3 .stored chips value s

/-- v2_0xB4: stored only under V2, dropped under V1 (R5). -/
def execV2xB4 (chips : BitVec 4) (value : Word) (s : State) : Answer :=
  regWrite 0xB4 .stored chips value s

/-- v2_0xB5: stored only under V2, dropped under V1 (R5). -/
def execV2xB5 (chips : BitVec 4) (value : Word) (s : State) : Answer :=
  regWrite 0xB5 .stored chips value s

/-- v2_0xB6: stored only under V2, dropped under V1 (R5). -/
def execV2xB6 (chips : BitVec 4) (value : Word) (s : State) : Answer :=
  regWrite 0xB6 .stored chips value s

/-- v2_0xB7: stored only under V2, dropped under V1 (R5). -/
def execV2xB7 (chips : BitVec 4) (value : Word) (s : State) : Answer :=
  regWrite 0xB7 .stored chips value s

/-- v2_0xB8: stored only under V2, dropped under V1 (R5). -/
def execV2xB8 (chips : BitVec 4) (value : Word) (s : State) : Answer :=
  regWrite 0xB8 .stored chips value s

/-- v2_0xB9: stored only under V2, dropped under V1 (R5). -/
def execV2xB9 (chips : BitVec 4) (value : Word) (s : State) : Answer :=
  regWrite 0xB9 .stored chips value s

/-- v2_0xBA: stored only under V2, dropped under V1 (R5). -/
def execV2xBA (chips : BitVec 4) (value : Word) (s : State) : Answer :=
  regWrite 0xBA .stored chips value s

/-- v2_0xBB: stored only under V2, dropped under V1 (R5). -/
def execV2xBB (chips : BitVec 4) (value : Word) (s : State) : Answer :=
  regWrite 0xBB .stored chips value s

/-- v2_0xBC: stored only under V2, dropped under V1 (R5). -/
def execV2xBC (chips : BitVec 4) (value : Word) (s : State) : Answer :=
  regWrite 0xBC .stored chips value s

/-- v2_0xBD: stored only under V2, dropped under V1 (R5). -/
def execV2xBD (chips : BitVec 4) (value : Word) (s : State) : Answer :=
  regWrite 0xBD .stored chips value s

/-- v2_0xBE: stored only under V2, dropped under V1 (R5). -/
def execV2xBE (chips : BitVec 4) (value : Word) (s : State) : Answer :=
  regWrite 0xBE .stored chips value s

/-- v2_0xBF: stored only under V2, dropped under V1 (R5). -/
def execV2xBF (chips : BitVec 4) (value : Word) (s : State) : Answer :=
  regWrite 0xBF .stored chips value s

end Sys2Proof.Machine
end

