-- ==== Sys2Proof/Machine/System.lean ====
section
/-! DEFINITION. The operations outside the register bus: PCI_INITEN (30_encoding R107) and RESET
(70_reset_and_hazards R420–R424). -/

namespace Sys2Proof.Machine

open Sys2Proof

/-! ## RESET -/

/-- A supported memory size: a power of two from 1 MiB to 4 MiB (R420, D22). -/
def supportedSize (n : Nat) : Bool := decide (n = 0x100000) || decide (n = 0x200000) || decide (n = 0x400000)

/-- The values that RESET_POLICY = REFERENCE gives the state that R421 marks A. -/
def referenceUnit : UnitValues :=
  { ram := [], s := Grad.zero 64, t := Grad.zero 64, w := Grad.zero 64, palette := [], palettea := [] }

/-- The reference register values and zeros (R421). -/
def referenceValues : ResetValues :=
  { regs := [(0x80, 0x00000001), (0x84, 0x00000410), (0x85, 0x00201102), (0x86, 0x80000040),
      (0x87, 0x001E4000)],
    dacReg := [], dacReadResult := 0, fbRam := [], va := { x := 0, y := 0 }, vb := { x := 0, y := 0 },
    vc := { x := 0, y := 0 }, r := Grad.zero 32, g := Grad.zero 32, b := Grad.zero 32, a := Grad.zero 32,
    z := Grad.zero 32, w := Grad.zero 64, fogblend := [], fogdelta := [], svert0 := SetupVertex.zero,
    svert1 := SetupVertex.zero, svert2 := SetupVertex.zero, tmu0 := referenceUnit, tmu1 := referenceUnit }

/-- The values RESET starts from (R9, D24). -/
def resetValues : ResetPolicy → ResetValues
  | .reference => referenceValues
  | .arbitrary v => v

/-- An NCC table whose coefficients are those of its 12 registers, from index `base` of bank `bank` (R421;
DEDUCED: notes/assumptions/30.md). -/
def nccFromRegisters (k : TableFields) (regs : Memory 32) (bank base : Nat) : Ncc :=
  (List.range 12).foldl (fun t n => nccCoefficient k n (regs.read (bank * 256 + base + n)) t) Ncc.zero

/-- Unit `u` after RESET (R421, R422): dirty, its derived tables those of its registers. -/
def resetUnit (c : Config) (regs : Memory 32) (u : Nat) (v : UnitValues) : Tmu :=
  let bank := (u + 1) * 256
  let k := c.constants.tables
  let t : Tmu := { Tmu.reset with
    ram := v.ram, mask := BitVec.ofNat 32 (c.tmumemBytes - 1), s := v.s, t := v.t, w := v.w,
    ncc0 := nccFromRegisters k regs (u + 1) Reg.nccTable0, ncc1 := nccFromRegisters k regs (u + 1) Reg.nccTable1,
    palette := v.palette, palettea := v.palettea }
  { recomputeFrom c (regs.read (bank + Reg.textureMode)) (regs.read (bank + Reg.tLOD))
      (regs.read (bank + Reg.tDetail)) (regs.read (bank + Reg.texBaseAddr)) t with regdirty := true }

/-- The FBI after RESET, before its layout (R421). -/
def resetFbi (c : Config) (v : ResetValues) : Fbi :=
  { Fbi.reset with
    ram := v.fbRam, mask := BitVec.ofNat 32 (c.fbmemBytes - 1), frontbuf := c.constants.reset.frontbuf,
    backbuf := c.constants.reset.backbuf, va := v.va, vb := v.vb, vc := v.vc, r := v.r,
    g := v.g, b := v.b, a := v.a, z := v.z, w := v.w, fogblend := v.fogblend, fogdelta := v.fogdelta,
    svert0 := v.svert0, svert1 := v.svert1, svert2 := v.svert2 }

/-- The state of a supported RESET (R421–R424); what the host still has to do and the count of draws are the
model's own and stay (DESIGN CHOICE, safe: notes/assumptions/34.md). -/
def resetTo (c : Config) (policy : ResetPolicy) (s : State) : State :=
  let v := resetValues policy
  recomputeLayout { State.reset with
    regs := v.regs, initEnable := c.constants.reset.initEnable,
    dac := { reg := v.dacReg, readResult := v.dacReadResult }, fbi := resetFbi c v,
    tmu0 := resetUnit c v.regs 0 v.tmu0, tmu1 := resetUnit c v.regs 1 v.tmu1, config := c,
    stats := c.constants.reset.stats, pending := s.pending, result := none, draws := s.draws }

/-- RESET with a size that is not supported: "a state whose only content is fatal" (R420). No later operation
but RESET has a step, so the rest is blank (DESIGN CHOICE, safe: notes/assumptions/24.md). -/
def resetBad (c : Config) (s : State) : State :=
  recomputeLayout { State.reset with
    regs := [], fatal := some .badMemorySize, config := c, pending := s.pending, result := none,
    draws := s.draws }

/-! ## The meanings -/

/-- REG_WR whose offset may be aliased (R130, R137). -/
def execRegWr (offset value : Word) (s : State) : Answer := busWrite offset value s

/-- REG_RD of a register that is not computed, or whose offset may be aliased (R139). -/
def execRegRd (offset : Word) (s : State) : Answer := busRead offset s

/-- LFB_WR (45_lfb R360). -/
def execLfbWr (offset value : Word) (mask : BitVec 4) (s : State) : Answer :=
  unlessFatal s (lfbWrite offset value mask)

/-- LFB_RD (45_lfb R371). -/
def execLfbRd (offset : Word) (s : State) : Answer := unlessFatal s (lfbRead offset)

/-- TEX_WR (41_texture_unit R192); it returns status 0 (D47). -/
def execTexWr (offset value : Word) (s : State) : Answer := unlessFatal s (textureUpload offset value)

/-- PCI_INITEN: `init_enable <- value` (R24, R107). -/
def execPciIniten (value : Word) (s : State) : Answer :=
  unlessFatal s fun s => done { s with initEnable := value }

/-- RESET (R420): the one operation that has a step in the fatal state. -/
def execReset (config : Config) (policy : ResetPolicy) (s : State) : Answer :=
  if supportedSize config.fbmemBytes && supportedSize config.tmumemBytes then .next (resetTo config policy s)
  else .next (resetBad config s)

end Sys2Proof.Machine
end

