-- ==== Sys2Proof/Machine/TexRegs.lean ====
section
/-! DEFINITION. The meanings of the texture-parameter and NCC registers (40_register_bus R158, R161):
each is the one write path of R130 at its index, with its own side effect. -/

namespace Sys2Proof.Machine

open Sys2Proof

/-- textureMode: stored, and the unit is marked dirty (R161). -/
def execTextureMode (chips : BitVec 4) (value : Word) (s : State) : Answer :=
  regWrite 0xC0 .texture chips value s

/-- tLOD: stored, and the unit is marked dirty (R161). -/
def execTLOD (chips : BitVec 4) (value : Word) (s : State) : Answer :=
  regWrite 0xC1 .texture chips value s

/-- tDetail: stored, and the unit is marked dirty (R161). -/
def execTDetail (chips : BitVec 4) (value : Word) (s : State) : Answer :=
  regWrite 0xC2 .texture chips value s

/-- texBaseAddr: stored, and the unit is marked dirty (R161). -/
def execTexBaseAddr (chips : BitVec 4) (value : Word) (s : State) : Answer :=
  regWrite 0xC3 .texture chips value s

/-- texBaseAddr_1: stored, and the unit is marked dirty (R161). -/
def execTexBaseAddr_1 (chips : BitVec 4) (value : Word) (s : State) : Answer :=
  regWrite 0xC4 .texture chips value s

/-- texBaseAddr_2: stored, and the unit is marked dirty (R161). -/
def execTexBaseAddr_2 (chips : BitVec 4) (value : Word) (s : State) : Answer :=
  regWrite 0xC5 .texture chips value s

/-- texBaseAddr_3_8: stored, and the unit is marked dirty (R161). -/
def execTexBaseAddr_3_8 (chips : BitVec 4) (value : Word) (s : State) : Answer :=
  regWrite 0xC6 .texture chips value s

/-- trexInit0: stored (R161). -/
def execTrexInit0 (chips : BitVec 4) (value : Word) (s : State) : Answer :=
  regWrite 0xC7 .stored chips value s

/-- trexInit1: stored (R161). -/
def execTrexInit1 (chips : BitVec 4) (value : Word) (s : State) : Answer :=
  regWrite 0xC8 .stored chips value s

/-- nccTable0[0]: an NCC register, or a palette entry (R158). -/
def execNcc0Entry0 (chips : BitVec 4) (value : Word) (s : State) : Answer :=
  regWrite 0xC9 (.ncc 0 0) chips value s

/-- nccTable0[1]: an NCC register, or a palette entry (R158). -/
def execNcc0Entry1 (chips : BitVec 4) (value : Word) (s : State) : Answer :=
  regWrite 0xCA (.ncc 0 1) chips value s

/-- nccTable0[2]: an NCC register, or a palette entry (R158). -/
def execNcc0Entry2 (chips : BitVec 4) (value : Word) (s : State) : Answer :=
  regWrite 0xCB (.ncc 0 2) chips value s

/-- nccTable0[3]: an NCC register, or a palette entry (R158). -/
def execNcc0Entry3 (chips : BitVec 4) (value : Word) (s : State) : Answer :=
  regWrite 0xCC (.ncc 0 3) chips value s

/-- nccTable0[4]: an NCC register, or a palette entry (R158). -/
def execNcc0Entry4 (chips : BitVec 4) (value : Word) (s : State) : Answer :=
  regWrite 0xCD (.ncc 0 4) chips value s

/-- nccTable0[5]: an NCC register, or a palette entry (R158). -/
def execNcc0Entry5 (chips : BitVec 4) (value : Word) (s : State) : Answer :=
  regWrite 0xCE (.ncc 0 5) chips value s

/-- nccTable0[6]: an NCC register, or a palette entry (R158). -/
def execNcc0Entry6 (chips : BitVec 4) (value : Word) (s : State) : Answer :=
  regWrite 0xCF (.ncc 0 6) chips value s

/-- nccTable0[7]: an NCC register, or a palette entry (R158). -/
def execNcc0Entry7 (chips : BitVec 4) (value : Word) (s : State) : Answer :=
  regWrite 0xD0 (.ncc 0 7) chips value s

/-- nccTable0[8]: an NCC register, or a palette entry (R158). -/
def execNcc0Entry8 (chips : BitVec 4) (value : Word) (s : State) : Answer :=
  regWrite 0xD1 (.ncc 0 8) chips value s

/-- nccTable0[9]: an NCC register, or a palette entry (R158). -/
def execNcc0Entry9 (chips : BitVec 4) (value : Word) (s : State) : Answer :=
  regWrite 0xD2 (.ncc 0 9) chips value s

/-- nccTable0[10]: an NCC register, or a palette entry (R158). -/
def execNcc0Entry10 (chips : BitVec 4) (value : Word) (s : State) : Answer :=
  regWrite 0xD3 (.ncc 0 10) chips value s

/-- nccTable0[11]: an NCC register, or a palette entry (R158). -/
def execNcc0Entry11 (chips : BitVec 4) (value : Word) (s : State) : Answer :=
  regWrite 0xD4 (.ncc 0 11) chips value s

/-- nccTable1[0]: an NCC register, or a palette entry (R158). -/
def execNcc1Entry0 (chips : BitVec 4) (value : Word) (s : State) : Answer :=
  regWrite 0xD5 (.ncc 1 0) chips value s

/-- nccTable1[1]: an NCC register, or a palette entry (R158). -/
def execNcc1Entry1 (chips : BitVec 4) (value : Word) (s : State) : Answer :=
  regWrite 0xD6 (.ncc 1 1) chips value s

/-- nccTable1[2]: an NCC register, or a palette entry (R158). -/
def execNcc1Entry2 (chips : BitVec 4) (value : Word) (s : State) : Answer :=
  regWrite 0xD7 (.ncc 1 2) chips value s

/-- nccTable1[3]: an NCC register, or a palette entry (R158). -/
def execNcc1Entry3 (chips : BitVec 4) (value : Word) (s : State) : Answer :=
  regWrite 0xD8 (.ncc 1 3) chips value s

/-- nccTable1[4]: an NCC register, or a palette entry (R158). -/
def execNcc1Entry4 (chips : BitVec 4) (value : Word) (s : State) : Answer :=
  regWrite 0xD9 (.ncc 1 4) chips value s

/-- nccTable1[5]: an NCC register, or a palette entry (R158). -/
def execNcc1Entry5 (chips : BitVec 4) (value : Word) (s : State) : Answer :=
  regWrite 0xDA (.ncc 1 5) chips value s

/-- nccTable1[6]: an NCC register, or a palette entry (R158). -/
def execNcc1Entry6 (chips : BitVec 4) (value : Word) (s : State) : Answer :=
  regWrite 0xDB (.ncc 1 6) chips value s

/-- nccTable1[7]: an NCC register, or a palette entry (R158). -/
def execNcc1Entry7 (chips : BitVec 4) (value : Word) (s : State) : Answer :=
  regWrite 0xDC (.ncc 1 7) chips value s

/-- nccTable1[8]: an NCC register, or a palette entry (R158). -/
def execNcc1Entry8 (chips : BitVec 4) (value : Word) (s : State) : Answer :=
  regWrite 0xDD (.ncc 1 8) chips value s

/-- nccTable1[9]: an NCC register, or a palette entry (R158). -/
def execNcc1Entry9 (chips : BitVec 4) (value : Word) (s : State) : Answer :=
  regWrite 0xDE (.ncc 1 9) chips value s

/-- nccTable1[10]: an NCC register, or a palette entry (R158). -/
def execNcc1Entry10 (chips : BitVec 4) (value : Word) (s : State) : Answer :=
  regWrite 0xDF (.ncc 1 10) chips value s

/-- nccTable1[11]: an NCC register, or a palette entry (R158). -/
def execNcc1Entry11 (chips : BitVec 4) (value : Word) (s : State) : Answer :=
  regWrite 0xE0 (.ncc 1 11) chips value s

end Sys2Proof.Machine
end

