-- ==== Sys2Proof/Machine/Vertices.lean ====
section
/-! DEFINITION. The meanings of the vertex registers and their float-encoded forms (40_register_bus R142, R148):
each is the one write path of R130 at its index, with its own side effect. -/

namespace Sys2Proof.Machine

open Sys2Proof

/-- vertexAx: a 12.4 vertex coordinate (R142). -/
def execVertexAx (chips : BitVec 4) (value : Word) (s : State) : Answer :=
  regWrite 0x02 (.vertex .a .x) chips value s

/-- vertexAy: a 12.4 vertex coordinate (R142). -/
def execVertexAy (chips : BitVec 4) (value : Word) (s : State) : Answer :=
  regWrite 0x03 (.vertex .a .y) chips value s

/-- vertexBx: a 12.4 vertex coordinate (R142). -/
def execVertexBx (chips : BitVec 4) (value : Word) (s : State) : Answer :=
  regWrite 0x04 (.vertex .b .x) chips value s

/-- vertexBy: a 12.4 vertex coordinate (R142). -/
def execVertexBy (chips : BitVec 4) (value : Word) (s : State) : Answer :=
  regWrite 0x05 (.vertex .b .y) chips value s

/-- vertexCx: a 12.4 vertex coordinate (R142). -/
def execVertexCx (chips : BitVec 4) (value : Word) (s : State) : Answer :=
  regWrite 0x06 (.vertex .c .x) chips value s

/-- vertexCy: a 12.4 vertex coordinate (R142). -/
def execVertexCy (chips : BitVec 4) (value : Word) (s : State) : Answer :=
  regWrite 0x07 (.vertex .c .y) chips value s

/-- fvertexAx: the binary32 form of a vertex coordinate (R148). -/
def execFvertexAx (chips : BitVec 4) (value : Word) (s : State) : Answer :=
  regWrite 0x22 (.vertexFloat .a .x) chips value s

/-- fvertexAy: the binary32 form of a vertex coordinate (R148). -/
def execFvertexAy (chips : BitVec 4) (value : Word) (s : State) : Answer :=
  regWrite 0x23 (.vertexFloat .a .y) chips value s

/-- fvertexBx: the binary32 form of a vertex coordinate (R148). -/
def execFvertexBx (chips : BitVec 4) (value : Word) (s : State) : Answer :=
  regWrite 0x24 (.vertexFloat .b .x) chips value s

/-- fvertexBy: the binary32 form of a vertex coordinate (R148). -/
def execFvertexBy (chips : BitVec 4) (value : Word) (s : State) : Answer :=
  regWrite 0x25 (.vertexFloat .b .y) chips value s

/-- fvertexCx: the binary32 form of a vertex coordinate (R148). -/
def execFvertexCx (chips : BitVec 4) (value : Word) (s : State) : Answer :=
  regWrite 0x26 (.vertexFloat .c .x) chips value s

/-- fvertexCy: the binary32 form of a vertex coordinate (R148). -/
def execFvertexCy (chips : BitVec 4) (value : Word) (s : State) : Answer :=
  regWrite 0x27 (.vertexFloat .c .y) chips value s

end Sys2Proof.Machine
end

