-- ==== Sys2Proof/Machine/VideoRegs.lean ====
section
/-! DEFINITION. The meanings of the command-FIFO, video, DAC and history registers (40_register_bus R132, R159, R163, 00_scope R5):
each is the one write path of R130 at its index, with its own side effect. -/

namespace Sys2Proof.Machine

open Sys2Proof

/-- cmdFifo_0x78: stored only under V2, dropped under V1 (R5). -/
def execCmdFifo78 (chips : BitVec 4) (value : Word) (s : State) : Answer :=
  regWrite 0x78 .stored chips value s

/-- cmdFifo_0x79: stored only under V2, dropped under V1 (R5). -/
def execCmdFifo79 (chips : BitVec 4) (value : Word) (s : State) : Answer :=
  regWrite 0x79 .stored chips value s

/-- cmdFifo_0x7A: stored only under V2, dropped under V1 (R5). -/
def execCmdFifo7A (chips : BitVec 4) (value : Word) (s : State) : Answer :=
  regWrite 0x7A .stored chips value s

/-- cmdFifo_0x7B: stored only under V2, dropped under V1 (R5). -/
def execCmdFifo7B (chips : BitVec 4) (value : Word) (s : State) : Answer :=
  regWrite 0x7B .stored chips value s

/-- cmdFifo_0x7C: stored only under V2, dropped under V1 (R5). -/
def execCmdFifo7C (chips : BitVec 4) (value : Word) (s : State) : Answer :=
  regWrite 0x7C .stored chips value s

/-- cmdFifo_0x7D: stored only under V2, dropped under V1 (R5). -/
def execCmdFifo7D (chips : BitVec 4) (value : Word) (s : State) : Answer :=
  regWrite 0x7D .stored chips value s

/-- cmdFifo_0x7E: stored only under V2, dropped under V1 (R5). -/
def execCmdFifo7E (chips : BitVec 4) (value : Word) (s : State) : Answer :=
  regWrite 0x7E .stored chips value s

/-- cmdFifo_0x7F: stored only under V2, dropped under V1 (R5). -/
def execCmdFifo7F (chips : BitVec 4) (value : Word) (s : State) : Answer :=
  regWrite 0x7F .stored chips value s

/-- vRetrace: read-only: the write is dropped (R132). -/
def execVRetrace (chips : BitVec 4) (value : Word) (s : State) : Answer :=
  regWrite 0x81 .stored chips value s

/-- backPorch: stored (R163). -/
def execBackPorch (chips : BitVec 4) (value : Word) (s : State) : Answer :=
  regWrite 0x82 .stored chips value s

/-- videoDimensions: stored (R163). -/
def execVideoDimensions (chips : BitVec 4) (value : Word) (s : State) : Answer :=
  regWrite 0x83 .stored chips value s

/-- hSync: stored (R163). -/
def execHSync (chips : BitVec 4) (value : Word) (s : State) : Answer :=
  regWrite 0x88 .stored chips value s

/-- vSync: stored (R163). -/
def execVSync (chips : BitVec 4) (value : Word) (s : State) : Answer :=
  regWrite 0x89 .stored chips value s

/-- clutData: stored (R163). -/
def execClutData (chips : BitVec 4) (value : Word) (s : State) : Answer :=
  regWrite 0x8A .stored chips value s

/-- dacData: push or latch a DAC byte (R159). -/
def execDacData (chips : BitVec 4) (value : Word) (s : State) : Answer :=
  regWrite 0x8B .dac chips value s

/-- maxRgbDelta: stored (R163). -/
def execMaxRgbDelta (chips : BitVec 4) (value : Word) (s : State) : Answer :=
  regWrite 0x8C .stored chips value s

/-- hBorder (V2): stored (R163). -/
def execHBorder (chips : BitVec 4) (value : Word) (s : State) : Answer :=
  regWrite 0x8D .stored chips value s

/-- vBorder (V2): stored (R163). -/
def execVBorder (chips : BitVec 4) (value : Word) (s : State) : Answer :=
  regWrite 0x8E .stored chips value s

/-- borderColor (V2): stored (R163). -/
def execBorderColor (chips : BitVec 4) (value : Word) (s : State) : Answer :=
  regWrite 0x8F .stored chips value s

/-- hvRetrace (V2): read-only: the write is dropped (R132). -/
def execHvRetrace (chips : BitVec 4) (value : Word) (s : State) : Answer :=
  regWrite 0x90 .stored chips value s

/-- fbiSwapHistory (V2): read-only: the write is dropped (R132). -/
def execFbiSwapHistory (chips : BitVec 4) (value : Word) (s : State) : Answer :=
  regWrite 0x96 .stored chips value s

/-- fbiTrianglesOut (V2): read-only: the write is dropped (R132). -/
def execFbiTrianglesOut (chips : BitVec 4) (value : Word) (s : State) : Answer :=
  regWrite 0x97 .stored chips value s

end Sys2Proof.Machine
end

