-- ==== Sys2Proof/Machine/Dispatch.lean ====
section
/-! DEFINITION. The meaning of every instruction: one arm per constructor of Instr. -/

namespace Sys2Proof.Machine

open Sys2Proof

/-- The meaning of an instruction. -/
def exec (i : Instr) (s : State) : Host.Outcome State Fault Refusal :=
  match i with
  | .regWr offset value => Sys2Proof.Machine.execRegWr offset value s
  | .regRd offset => Sys2Proof.Machine.execRegRd offset s
  | .lfbWr offset value mask => Sys2Proof.Machine.execLfbWr offset value mask s
  | .lfbRd offset => Sys2Proof.Machine.execLfbRd offset s
  | .texWr offset value => Sys2Proof.Machine.execTexWr offset value s
  | .pciIniten value => Sys2Proof.Machine.execPciIniten value s
  | .reset config policy => Sys2Proof.Machine.execReset config policy s
  | .status chips value => Sys2Proof.Machine.execStatus chips value s
  | .intrCtrl chips value => Sys2Proof.Machine.execIntrCtrl chips value s
  | .vertexAx chips value => Sys2Proof.Machine.execVertexAx chips value s
  | .vertexAy chips value => Sys2Proof.Machine.execVertexAy chips value s
  | .vertexBx chips value => Sys2Proof.Machine.execVertexBx chips value s
  | .vertexBy chips value => Sys2Proof.Machine.execVertexBy chips value s
  | .vertexCx chips value => Sys2Proof.Machine.execVertexCx chips value s
  | .vertexCy chips value => Sys2Proof.Machine.execVertexCy chips value s
  | .startR chips value => Sys2Proof.Machine.execStartR chips value s
  | .startG chips value => Sys2Proof.Machine.execStartG chips value s
  | .startB chips value => Sys2Proof.Machine.execStartB chips value s
  | .startZ chips value => Sys2Proof.Machine.execStartZ chips value s
  | .startA chips value => Sys2Proof.Machine.execStartA chips value s
  | .startS chips value => Sys2Proof.Machine.execStartS chips value s
  | .startT chips value => Sys2Proof.Machine.execStartT chips value s
  | .startW chips value => Sys2Proof.Machine.execStartW chips value s
  | .dRdX chips value => Sys2Proof.Machine.execDRdX chips value s
  | .dGdX chips value => Sys2Proof.Machine.execDGdX chips value s
  | .dBdX chips value => Sys2Proof.Machine.execDBdX chips value s
  | .dZdX chips value => Sys2Proof.Machine.execDZdX chips value s
  | .dAdX chips value => Sys2Proof.Machine.execDAdX chips value s
  | .dSdX chips value => Sys2Proof.Machine.execDSdX chips value s
  | .dTdX chips value => Sys2Proof.Machine.execDTdX chips value s
  | .dWdX chips value => Sys2Proof.Machine.execDWdX chips value s
  | .dRdY chips value => Sys2Proof.Machine.execDRdY chips value s
  | .dGdY chips value => Sys2Proof.Machine.execDGdY chips value s
  | .dBdY chips value => Sys2Proof.Machine.execDBdY chips value s
  | .dZdY chips value => Sys2Proof.Machine.execDZdY chips value s
  | .dAdY chips value => Sys2Proof.Machine.execDAdY chips value s
  | .dSdY chips value => Sys2Proof.Machine.execDSdY chips value s
  | .dTdY chips value => Sys2Proof.Machine.execDTdY chips value s
  | .dWdY chips value => Sys2Proof.Machine.execDWdY chips value s
  | .triangleCMD chips value => Sys2Proof.Machine.execTriangleCMD chips value s
  | .fvertexAx chips value => Sys2Proof.Machine.execFvertexAx chips value s
  | .fvertexAy chips value => Sys2Proof.Machine.execFvertexAy chips value s
  | .fvertexBx chips value => Sys2Proof.Machine.execFvertexBx chips value s
  | .fvertexBy chips value => Sys2Proof.Machine.execFvertexBy chips value s
  | .fvertexCx chips value => Sys2Proof.Machine.execFvertexCx chips value s
  | .fvertexCy chips value => Sys2Proof.Machine.execFvertexCy chips value s
  | .fstartR chips value => Sys2Proof.Machine.execFstartR chips value s
  | .fstartG chips value => Sys2Proof.Machine.execFstartG chips value s
  | .fstartB chips value => Sys2Proof.Machine.execFstartB chips value s
  | .fstartZ chips value => Sys2Proof.Machine.execFstartZ chips value s
  | .fstartA chips value => Sys2Proof.Machine.execFstartA chips value s
  | .fstartS chips value => Sys2Proof.Machine.execFstartS chips value s
  | .fstartT chips value => Sys2Proof.Machine.execFstartT chips value s
  | .fstartW chips value => Sys2Proof.Machine.execFstartW chips value s
  | .fdRdX chips value => Sys2Proof.Machine.execFdRdX chips value s
  | .fdGdX chips value => Sys2Proof.Machine.execFdGdX chips value s
  | .fdBdX chips value => Sys2Proof.Machine.execFdBdX chips value s
  | .fdZdX chips value => Sys2Proof.Machine.execFdZdX chips value s
  | .fdAdX chips value => Sys2Proof.Machine.execFdAdX chips value s
  | .fdSdX chips value => Sys2Proof.Machine.execFdSdX chips value s
  | .fdTdX chips value => Sys2Proof.Machine.execFdTdX chips value s
  | .fdWdX chips value => Sys2Proof.Machine.execFdWdX chips value s
  | .fdRdY chips value => Sys2Proof.Machine.execFdRdY chips value s
  | .fdGdY chips value => Sys2Proof.Machine.execFdGdY chips value s
  | .fdBdY chips value => Sys2Proof.Machine.execFdBdY chips value s
  | .fdZdY chips value => Sys2Proof.Machine.execFdZdY chips value s
  | .fdAdY chips value => Sys2Proof.Machine.execFdAdY chips value s
  | .fdSdY chips value => Sys2Proof.Machine.execFdSdY chips value s
  | .fdTdY chips value => Sys2Proof.Machine.execFdTdY chips value s
  | .fdWdY chips value => Sys2Proof.Machine.execFdWdY chips value s
  | .ftriangleCMD chips value => Sys2Proof.Machine.execFtriangleCMD chips value s
  | .fbzColorPath chips value => Sys2Proof.Machine.execFbzColorPath chips value s
  | .fogMode chips value => Sys2Proof.Machine.execFogMode chips value s
  | .alphaMode chips value => Sys2Proof.Machine.execAlphaMode chips value s
  | .fbzMode chips value => Sys2Proof.Machine.execFbzMode chips value s
  | .lfbMode chips value => Sys2Proof.Machine.execLfbMode chips value s
  | .clipLeftRight chips value => Sys2Proof.Machine.execClipLeftRight chips value s
  | .clipLowYHighY chips value => Sys2Proof.Machine.execClipLowYHighY chips value s
  | .nopCMD chips value => Sys2Proof.Machine.execNopCMD chips value s
  | .fastfillCMD chips value => Sys2Proof.Machine.execFastfillCMD chips value s
  | .swapbufferCMD chips value => Sys2Proof.Machine.execSwapbufferCMD chips value s
  | .fogColor chips value => Sys2Proof.Machine.execFogColor chips value s
  | .zaColor chips value => Sys2Proof.Machine.execZaColor chips value s
  | .chromaKey chips value => Sys2Proof.Machine.execChromaKey chips value s
  | .chromaRange chips value => Sys2Proof.Machine.execChromaRange chips value s
  | .userIntrCMD chips value => Sys2Proof.Machine.execUserIntrCMD chips value s
  | .stipple chips value => Sys2Proof.Machine.execStipple chips value s
  | .color0 chips value => Sys2Proof.Machine.execColor0 chips value s
  | .color1 chips value => Sys2Proof.Machine.execColor1 chips value s
  | .fbiPixelsIn chips value => Sys2Proof.Machine.execFbiPixelsIn chips value s
  | .fbiChromaFail chips value => Sys2Proof.Machine.execFbiChromaFail chips value s
  | .fbiZfuncFail chips value => Sys2Proof.Machine.execFbiZfuncFail chips value s
  | .fbiAfuncFail chips value => Sys2Proof.Machine.execFbiAfuncFail chips value s
  | .fbiPixelsOut chips value => Sys2Proof.Machine.execFbiPixelsOut chips value s
  | .fogTable0 chips value => Sys2Proof.Machine.execFogTable0 chips value s
  | .fogTable1 chips value => Sys2Proof.Machine.execFogTable1 chips value s
  | .fogTable2 chips value => Sys2Proof.Machine.execFogTable2 chips value s
  | .fogTable3 chips value => Sys2Proof.Machine.execFogTable3 chips value s
  | .fogTable4 chips value => Sys2Proof.Machine.execFogTable4 chips value s
  | .fogTable5 chips value => Sys2Proof.Machine.execFogTable5 chips value s
  | .fogTable6 chips value => Sys2Proof.Machine.execFogTable6 chips value s
  | .fogTable7 chips value => Sys2Proof.Machine.execFogTable7 chips value s
  | .fogTable8 chips value => Sys2Proof.Machine.execFogTable8 chips value s
  | .fogTable9 chips value => Sys2Proof.Machine.execFogTable9 chips value s
  | .fogTable10 chips value => Sys2Proof.Machine.execFogTable10 chips value s
  | .fogTable11 chips value => Sys2Proof.Machine.execFogTable11 chips value s
  | .fogTable12 chips value => Sys2Proof.Machine.execFogTable12 chips value s
  | .fogTable13 chips value => Sys2Proof.Machine.execFogTable13 chips value s
  | .fogTable14 chips value => Sys2Proof.Machine.execFogTable14 chips value s
  | .fogTable15 chips value => Sys2Proof.Machine.execFogTable15 chips value s
  | .fogTable16 chips value => Sys2Proof.Machine.execFogTable16 chips value s
  | .fogTable17 chips value => Sys2Proof.Machine.execFogTable17 chips value s
  | .fogTable18 chips value => Sys2Proof.Machine.execFogTable18 chips value s
  | .fogTable19 chips value => Sys2Proof.Machine.execFogTable19 chips value s
  | .fogTable20 chips value => Sys2Proof.Machine.execFogTable20 chips value s
  | .fogTable21 chips value => Sys2Proof.Machine.execFogTable21 chips value s
  | .fogTable22 chips value => Sys2Proof.Machine.execFogTable22 chips value s
  | .fogTable23 chips value => Sys2Proof.Machine.execFogTable23 chips value s
  | .fogTable24 chips value => Sys2Proof.Machine.execFogTable24 chips value s
  | .fogTable25 chips value => Sys2Proof.Machine.execFogTable25 chips value s
  | .fogTable26 chips value => Sys2Proof.Machine.execFogTable26 chips value s
  | .fogTable27 chips value => Sys2Proof.Machine.execFogTable27 chips value s
  | .fogTable28 chips value => Sys2Proof.Machine.execFogTable28 chips value s
  | .fogTable29 chips value => Sys2Proof.Machine.execFogTable29 chips value s
  | .fogTable30 chips value => Sys2Proof.Machine.execFogTable30 chips value s
  | .fogTable31 chips value => Sys2Proof.Machine.execFogTable31 chips value s
  | .cmdFifo78 chips value => Sys2Proof.Machine.execCmdFifo78 chips value s
  | .cmdFifo79 chips value => Sys2Proof.Machine.execCmdFifo79 chips value s
  | .cmdFifo7A chips value => Sys2Proof.Machine.execCmdFifo7A chips value s
  | .cmdFifo7B chips value => Sys2Proof.Machine.execCmdFifo7B chips value s
  | .cmdFifo7C chips value => Sys2Proof.Machine.execCmdFifo7C chips value s
  | .cmdFifo7D chips value => Sys2Proof.Machine.execCmdFifo7D chips value s
  | .cmdFifo7E chips value => Sys2Proof.Machine.execCmdFifo7E chips value s
  | .cmdFifo7F chips value => Sys2Proof.Machine.execCmdFifo7F chips value s
  | .fbiInit4 chips value => Sys2Proof.Machine.execFbiInit4 chips value s
  | .vRetrace chips value => Sys2Proof.Machine.execVRetrace chips value s
  | .backPorch chips value => Sys2Proof.Machine.execBackPorch chips value s
  | .videoDimensions chips value => Sys2Proof.Machine.execVideoDimensions chips value s
  | .fbiInit0 chips value => Sys2Proof.Machine.execFbiInit0 chips value s
  | .fbiInit1 chips value => Sys2Proof.Machine.execFbiInit1 chips value s
  | .fbiInit2 chips value => Sys2Proof.Machine.execFbiInit2 chips value s
  | .fbiInit3 chips value => Sys2Proof.Machine.execFbiInit3 chips value s
  | .hSync chips value => Sys2Proof.Machine.execHSync chips value s
  | .vSync chips value => Sys2Proof.Machine.execVSync chips value s
  | .clutData chips value => Sys2Proof.Machine.execClutData chips value s
  | .dacData chips value => Sys2Proof.Machine.execDacData chips value s
  | .maxRgbDelta chips value => Sys2Proof.Machine.execMaxRgbDelta chips value s
  | .hBorder chips value => Sys2Proof.Machine.execHBorder chips value s
  | .vBorder chips value => Sys2Proof.Machine.execVBorder chips value s
  | .borderColor chips value => Sys2Proof.Machine.execBorderColor chips value s
  | .hvRetrace chips value => Sys2Proof.Machine.execHvRetrace chips value s
  | .fbiInit5 chips value => Sys2Proof.Machine.execFbiInit5 chips value s
  | .fbiInit6 chips value => Sys2Proof.Machine.execFbiInit6 chips value s
  | .fbiInit7 chips value => Sys2Proof.Machine.execFbiInit7 chips value s
  | .fbiSwapHistory chips value => Sys2Proof.Machine.execFbiSwapHistory chips value s
  | .fbiTrianglesOut chips value => Sys2Proof.Machine.execFbiTrianglesOut chips value s
  | .sSetupMode chips value => Sys2Proof.Machine.execSSetupMode chips value s
  | .sVx chips value => Sys2Proof.Machine.execSVx chips value s
  | .sVy chips value => Sys2Proof.Machine.execSVy chips value s
  | .sARGB chips value => Sys2Proof.Machine.execSARGB chips value s
  | .sRed chips value => Sys2Proof.Machine.execSRed chips value s
  | .sGreen chips value => Sys2Proof.Machine.execSGreen chips value s
  | .sBlue chips value => Sys2Proof.Machine.execSBlue chips value s
  | .sAlpha chips value => Sys2Proof.Machine.execSAlpha chips value s
  | .sVz chips value => Sys2Proof.Machine.execSVz chips value s
  | .sWb chips value => Sys2Proof.Machine.execSWb chips value s
  | .sWtmu0 chips value => Sys2Proof.Machine.execSWtmu0 chips value s
  | .sS_W0 chips value => Sys2Proof.Machine.execSS_W0 chips value s
  | .sT_W0 chips value => Sys2Proof.Machine.execST_W0 chips value s
  | .sWtmu1 chips value => Sys2Proof.Machine.execSWtmu1 chips value s
  | .sS_Wtmu1 chips value => Sys2Proof.Machine.execSS_Wtmu1 chips value s
  | .sT_Wtmu1 chips value => Sys2Proof.Machine.execST_Wtmu1 chips value s
  | .sDrawTriCMD chips value => Sys2Proof.Machine.execSDrawTriCMD chips value s
  | .sBeginTriCMD chips value => Sys2Proof.Machine.execSBeginTriCMD chips value s
  | .v2xAA chips value => Sys2Proof.Machine.execV2xAA chips value s
  | .v2xAB chips value => Sys2Proof.Machine.execV2xAB chips value s
  | .v2xAC chips value => Sys2Proof.Machine.execV2xAC chips value s
  | .v2xAD chips value => Sys2Proof.Machine.execV2xAD chips value s
  | .v2xAE chips value => Sys2Proof.Machine.execV2xAE chips value s
  | .v2xAF chips value => Sys2Proof.Machine.execV2xAF chips value s
  | .v2xB0 chips value => Sys2Proof.Machine.execV2xB0 chips value s
  | .v2xB1 chips value => Sys2Proof.Machine.execV2xB1 chips value s
  | .v2xB2 chips value => Sys2Proof.Machine.execV2xB2 chips value s
  | .v2xB3 chips value => Sys2Proof.Machine.execV2xB3 chips value s
  | .v2xB4 chips value => Sys2Proof.Machine.execV2xB4 chips value s
  | .v2xB5 chips value => Sys2Proof.Machine.execV2xB5 chips value s
  | .v2xB6 chips value => Sys2Proof.Machine.execV2xB6 chips value s
  | .v2xB7 chips value => Sys2Proof.Machine.execV2xB7 chips value s
  | .v2xB8 chips value => Sys2Proof.Machine.execV2xB8 chips value s
  | .v2xB9 chips value => Sys2Proof.Machine.execV2xB9 chips value s
  | .v2xBA chips value => Sys2Proof.Machine.execV2xBA chips value s
  | .v2xBB chips value => Sys2Proof.Machine.execV2xBB chips value s
  | .v2xBC chips value => Sys2Proof.Machine.execV2xBC chips value s
  | .v2xBD chips value => Sys2Proof.Machine.execV2xBD chips value s
  | .v2xBE chips value => Sys2Proof.Machine.execV2xBE chips value s
  | .v2xBF chips value => Sys2Proof.Machine.execV2xBF chips value s
  | .textureMode chips value => Sys2Proof.Machine.execTextureMode chips value s
  | .tLOD chips value => Sys2Proof.Machine.execTLOD chips value s
  | .tDetail chips value => Sys2Proof.Machine.execTDetail chips value s
  | .texBaseAddr chips value => Sys2Proof.Machine.execTexBaseAddr chips value s
  | .texBaseAddr_1 chips value => Sys2Proof.Machine.execTexBaseAddr_1 chips value s
  | .texBaseAddr_2 chips value => Sys2Proof.Machine.execTexBaseAddr_2 chips value s
  | .texBaseAddr_3_8 chips value => Sys2Proof.Machine.execTexBaseAddr_3_8 chips value s
  | .trexInit0 chips value => Sys2Proof.Machine.execTrexInit0 chips value s
  | .trexInit1 chips value => Sys2Proof.Machine.execTrexInit1 chips value s
  | .ncc0Entry0 chips value => Sys2Proof.Machine.execNcc0Entry0 chips value s
  | .ncc0Entry1 chips value => Sys2Proof.Machine.execNcc0Entry1 chips value s
  | .ncc0Entry2 chips value => Sys2Proof.Machine.execNcc0Entry2 chips value s
  | .ncc0Entry3 chips value => Sys2Proof.Machine.execNcc0Entry3 chips value s
  | .ncc0Entry4 chips value => Sys2Proof.Machine.execNcc0Entry4 chips value s
  | .ncc0Entry5 chips value => Sys2Proof.Machine.execNcc0Entry5 chips value s
  | .ncc0Entry6 chips value => Sys2Proof.Machine.execNcc0Entry6 chips value s
  | .ncc0Entry7 chips value => Sys2Proof.Machine.execNcc0Entry7 chips value s
  | .ncc0Entry8 chips value => Sys2Proof.Machine.execNcc0Entry8 chips value s
  | .ncc0Entry9 chips value => Sys2Proof.Machine.execNcc0Entry9 chips value s
  | .ncc0Entry10 chips value => Sys2Proof.Machine.execNcc0Entry10 chips value s
  | .ncc0Entry11 chips value => Sys2Proof.Machine.execNcc0Entry11 chips value s
  | .ncc1Entry0 chips value => Sys2Proof.Machine.execNcc1Entry0 chips value s
  | .ncc1Entry1 chips value => Sys2Proof.Machine.execNcc1Entry1 chips value s
  | .ncc1Entry2 chips value => Sys2Proof.Machine.execNcc1Entry2 chips value s
  | .ncc1Entry3 chips value => Sys2Proof.Machine.execNcc1Entry3 chips value s
  | .ncc1Entry4 chips value => Sys2Proof.Machine.execNcc1Entry4 chips value s
  | .ncc1Entry5 chips value => Sys2Proof.Machine.execNcc1Entry5 chips value s
  | .ncc1Entry6 chips value => Sys2Proof.Machine.execNcc1Entry6 chips value s
  | .ncc1Entry7 chips value => Sys2Proof.Machine.execNcc1Entry7 chips value s
  | .ncc1Entry8 chips value => Sys2Proof.Machine.execNcc1Entry8 chips value s
  | .ncc1Entry9 chips value => Sys2Proof.Machine.execNcc1Entry9 chips value s
  | .ncc1Entry10 chips value => Sys2Proof.Machine.execNcc1Entry10 chips value s
  | .ncc1Entry11 chips value => Sys2Proof.Machine.execNcc1Entry11 chips value s
  | .reserved21 => Sys2Proof.Machine.execReserved21 s
  | .reserved94 => Sys2Proof.Machine.execReserved94 s
  | .reserved95 => Sys2Proof.Machine.execReserved95 s
  | .reservedE1 => Sys2Proof.Machine.execReservedE1 s
  | .reservedE2 => Sys2Proof.Machine.execReservedE2 s
  | .reservedE3 => Sys2Proof.Machine.execReservedE3 s
  | .reservedE4 => Sys2Proof.Machine.execReservedE4 s
  | .reservedE5 => Sys2Proof.Machine.execReservedE5 s
  | .reservedE6 => Sys2Proof.Machine.execReservedE6 s
  | .reservedE7 => Sys2Proof.Machine.execReservedE7 s
  | .reservedE8 => Sys2Proof.Machine.execReservedE8 s
  | .reservedE9 => Sys2Proof.Machine.execReservedE9 s
  | .reservedEA => Sys2Proof.Machine.execReservedEA s
  | .reservedEB => Sys2Proof.Machine.execReservedEB s
  | .reservedEC => Sys2Proof.Machine.execReservedEC s
  | .reservedED => Sys2Proof.Machine.execReservedED s
  | .reservedEE => Sys2Proof.Machine.execReservedEE s
  | .reservedEF => Sys2Proof.Machine.execReservedEF s
  | .reservedF0 => Sys2Proof.Machine.execReservedF0 s
  | .reservedF1 => Sys2Proof.Machine.execReservedF1 s
  | .reservedF2 => Sys2Proof.Machine.execReservedF2 s
  | .reservedF3 => Sys2Proof.Machine.execReservedF3 s
  | .reservedF4 => Sys2Proof.Machine.execReservedF4 s
  | .reservedF5 => Sys2Proof.Machine.execReservedF5 s
  | .reservedF6 => Sys2Proof.Machine.execReservedF6 s
  | .reservedF7 => Sys2Proof.Machine.execReservedF7 s
  | .reservedF8 => Sys2Proof.Machine.execReservedF8 s
  | .reservedF9 => Sys2Proof.Machine.execReservedF9 s
  | .reservedFA => Sys2Proof.Machine.execReservedFA s
  | .reservedFB => Sys2Proof.Machine.execReservedFB s
  | .reservedFC => Sys2Proof.Machine.execReservedFC s
  | .reservedFD => Sys2Proof.Machine.execReservedFD s
  | .reservedFE => Sys2Proof.Machine.execReservedFE s
  | .reservedFF => Sys2Proof.Machine.execReservedFF s
  | .statusRead => Sys2Proof.Machine.execStatusRead s
  | .fbiInit2Read => Sys2Proof.Machine.execFbiInit2Read s
  | .fbiPixelsInRead => Sys2Proof.Machine.execFbiPixelsInRead s
  | .fbiChromaFailRead => Sys2Proof.Machine.execFbiChromaFailRead s
  | .fbiZfuncFailRead => Sys2Proof.Machine.execFbiZfuncFailRead s
  | .fbiAfuncFailRead => Sys2Proof.Machine.execFbiAfuncFailRead s
  | .fbiPixelsOutRead => Sys2Proof.Machine.execFbiPixelsOutRead s
  | .vRetraceRead => Sys2Proof.Machine.execVRetraceRead s
  | .hvRetraceRead => Sys2Proof.Machine.execHvRetraceRead s
  | .fbiSwapHistoryRead => Sys2Proof.Machine.execFbiSwapHistoryRead s
  | .fbiTrianglesOutRead => Sys2Proof.Machine.execFbiTrianglesOutRead s

end Sys2Proof.Machine
end

