-- ==== Sys2Proof/Machine/Step.lean ====
section
/-! DEFINITION. One step of the machine (20_memory R91): the host's next bus operation, to its end. -/

namespace Sys2Proof.Machine

open Sys2Proof

/-- The machine has no instruction stream (30_encoding, D1, D2): a step takes the first of the operations the
host has still to do. With none left the machine is idle and a step changes nothing
(DESIGN CHOICE: notes/assumptions/1.md). -/
def step (s : State) : Host.Outcome State Fault Refusal :=
  match s.pending with
  | [] => .next s
  | cycle :: rest =>
    match decode (hostCycle s cycle) with
    | .error why => .refused (.undecodable why)
    | .ok i => hostAnswer s cycle (exec i { s with pending := rest })

/-- The opcode table's bits as the host's next operation: a REG_WR whose offset is bits 31:0 and whose data
word is bits 63:32. -/
def State.withFetchWord (s : State) (_nbits w : Nat) : State := { s with pending := [tableCycle w] }

end Sys2Proof.Machine
end

