-- ==== Sys2Proof/Safety.lean ====
section
/-! DEFINITION. The terms in which claims are stated: the state invariant, what a drawing operation may touch,
which bytes of framebuffer RAM a pixel owns, and what it is for a triangle to cover a pixel. -/

namespace Sys2Proof.Machine

open Sys2Proof

/-! ## The invariant -/

/-- A store in canonical form whose addresses lie below `n`. -/
def Memory.inRange {w : Nat} (n : Nat) (m : Memory w) : Bool := m.wf && m.below n

/-- The tables of an NCC table are canonical and have their sizes (R27). -/
def Ncc.ok (n : Ncc) : Bool :=
  n.y.inRange 16 && n.ir.inRange 4 && n.ig.inRange 4 && n.ib.inRange 4 && n.qr.inRange 4 && n.qg.inRange 4 &&
    n.qb.inRange 4 && n.texel.inRange 256

/-- Texture RAM has a supported size and lies inside its mask, and the tables of the unit have their sizes
(R27, R200, R420). -/
def Tmu.ok (t : Tmu) : Bool :=
  supportedSize (t.mask.toNat + 1) && t.ram.inRange (t.mask.toNat + 1) && t.ncc0.ok && t.ncc1.ok &&
    t.palette.inRange 256 && t.palettea.inRange 256 && t.lodoffset.inRange 9

/-- Framebuffer RAM has a supported size and lies inside its mask, and the fog tables have 64 entries (R26,
R88, R420). -/
def Fbi.ok (f : Fbi) : Bool :=
  supportedSize (f.mask.toNat + 1) && f.ram.inRange (f.mask.toNat + 1) && f.fogblend.inRange 64 &&
    f.fogdelta.inRange 64

/-- The buffer indices name buffers that exist (R380). -/
def Fbi.indicesOk (f : Fbi) : Bool := f.rgb2.isSome || (decide (f.frontbuf ≠ 2) && decide (f.backbuf ≠ 2))

/-- The layout is the one the fbiInit registers give (R383, R422). -/
def State.layoutOk (s : State) : Bool := decide (layoutOf s s.fbi = s.fbi)

/-- The cache has its 97 buckets and no more entries than `CACHE_MAX` (R270). -/
def State.cacheOk (s : State) : Bool :=
  decide (s.cache.buckets.length = 97) && decide (s.cache.entries.length ≤ s.config.cacheMax)

/-- What every reachable state is: memories canonical and inside their bounds, the layout a function of the
registers, the buffer indices valid, the cache within its capacity. -/
def State.Inv (s : State) : Bool :=
  s.regs.inRange 1024 && s.dac.reg.inRange 8 && s.fbi.ok && s.fbi.indicesOk && s.tmu0.ok && s.tmu1.ok &&
    s.layoutOk && s.cacheOk

/-- The derived tables of unit `u` are still to be recomputed, or they are what its registers give (R180). -/
def State.unitFresh (s : State) (u : Nat) : Prop := (s.tmu u).regdirty = true ∨ recomputeUnit u s = s

/-- The derived tables of both units are fresh or marked dirty: the lazy recompute loses nothing (R94, R433). -/
def State.tablesFresh (s : State) : Prop := s.unitFresh 0 ∧ s.unitFresh 1

/-! ## Register writes (R102, R130–R134) -/

/-- The banks a chip-select names that are present (R102): 0 names all, bank k + 1 is present when unit k is,
bank 3 never is. -/
def selected (c : Config) (chips : BitVec 4) (bank : Nat) : Bool :=
  (decide (chips = 0) || bit chips bank) && decide (bank ≤ c.ntmu.val)

/-- A write of register `index` is accepted in this state, whose register file is canonical. -/
structure Accepts (s : State) (index : Nat) : Prop where
  running : s.fatal = none
  canonical : s.regs.wf = true
  access : writable s.config index = true
  gate : isFbiInit index = true → bit s.initEnable 0 = true

/-- Slot `index` of every selected bank holds `value`, every other slot what it held (R131), and the bus
returns nothing. -/
structure Stores (index : Nat) (chips : BitVec 4) (value : Word) (s t : State) : Prop where
  result : t.result = none
  regs : ∀ bank i, bank < 4 → i < 256 →
    t.reg bank i = if i = index ∧ selected s.config chips bank = true then value else s.reg bank i

/-- The slot that a write of `index` with this chip-select stores in. -/
def isSlot (c : Config) (chips : BitVec 4) (index bank i : Nat) : Prop :=
  i = index ∧ selected c chips bank = true

/-- Table `i` of a unit. -/
def Tmu.ncc (t : Tmu) (i : Fin 2) : Ncc := if i = 0 then t.ncc0 else t.ncc1

/-! ## What drawing may touch -/

/-- The two bytes of pixel (x, sy) in the buffer at `base`; none in a buffer that is NONE. -/
def ownsByte (f : Fbi) (base : Option Word) (x sy a : Nat) : Prop :=
  match base with
  | none => False
  | some b => a = b.toNat + pixelOffset f x sy ∨ a = b.toNat + pixelOffset f x sy + 1

/-- The bytes a pixel's colour and aux words own. -/
def pixelByte (f : Fbi) (base : Option Word) (x sy a : Nat) : Prop :=
  ownsByte f base x sy a ∨ ownsByte f f.auxoffs x sy a

/-- The registers the pipeline itself refreshes: the stipple and the five statistics registers (R23). -/
def pipelineRegister (bank index : Nat) : Prop :=
  bank = 0 ∧ (index = Reg.stipple ∨ (Reg.fbiPixelsIn ≤ index ∧ index ≤ Reg.fbiPixelsOut))

/-- An NCC table's coefficients, without the entries derived from them. -/
def Ncc.program (n : Ncc) : Ncc := { n with texel := [], dirty := false }

/-- A texture unit's RAM, iterators, palettes and NCC coefficients, without what a fetch refreshes: its
derived tables and its NCC entries (R180, R189). -/
def Tmu.program (t : Tmu) : Tmu :=
  { t with
    lodmin := 0, lodmax := 0, lodbias := 0, lodmask := 0, wmask := 0, hmask := 0, lodoffset := [],
    detailmax := 0, detailbias := 0, detailscale := 0, ncc0 := t.ncc0.program, ncc1 := t.ncc1.program,
    texel := [], lookup := .none, regdirty := false }

/-- Two units that differ in derived tables alone. -/
def Tmu.sameProgram (t t' : Tmu) : Prop := t'.program = t.program

/-- What drawing leaves alone: the control state, every register but the pipeline's own, the FBI but its
RAM, the units but their derived tables. -/
structure DrawKeeps (s t : State) : Prop where
  initEnable : t.initEnable = s.initEnable
  pciFifoSize : t.pciFifoSize = s.pciFifoSize
  dac : t.dac = s.dac
  fatal : t.fatal = s.fatal
  config : t.config = s.config
  pending : t.pending = s.pending
  regs : ∀ bank index, bank < 4 → index < 256 → ¬ pipelineRegister bank index →
    t.reg bank index = s.reg bank index
  fbi : t.fbi = { s.fbi with ram := t.fbi.ram }
  tmu0 : s.tmu0.sameProgram t.tmu0
  tmu1 : s.tmu1.sameProgram t.tmu1

/-- No byte belongs to the colour word of one pixel inside and to the aux word of another (or the same). -/
def wordsApart (s : State) (base : Option Word) (inside : Nat → Nat → Prop) : Prop :=
  ∀ x y x' y' a, inside x y → inside x' y' →
    ¬ (ownsByte s.fbi base x (screenY s y) a ∧ ownsByte s.fbi s.fbi.auxoffs x' (screenY s y') a)

/-- No two rows of the pixels `inside` fall on one screen row. With the stated 10 bits of a flipped row (R292) this is
so for all rows below 1024 (`rowsApart_of_low`). -/
def rowsApart (s : State) (inside : Nat → Nat → Prop) : Prop :=
  ∀ x y x' y', inside x y → inside x' y' → screenY s y = screenY s y' → y = y'

/-! ## Coverage (R233, R234) -/

/-- The triangle of a snapshot covers pixel (x, y): the row and the span of R233, inside 0..1023. -/
def Snapshot.covered (n : Snapshot) (x y : Nat) : Bool :=
  let v := sortPoints n.va.point n.vb.point n.vc.point
  decide (x < 1024) && decide (y < 1024) && decide (rowOf n.frac v.v0 ≤ y) &&
    decide ((y : Int) < rowOf n.frac v.v2) && decide ((spanOf n.frac v y).first ≤ x) &&
    decide ((x : Int) < (spanOf n.frac v y).stop)

/-- `covered` as a proposition. -/
def Snapshot.covers (n : Snapshot) (x y : Nat) : Prop := n.covered x y = true

/-- How many pixels the triangle covers. -/
def Snapshot.coveredCount (n : Snapshot) : Nat :=
  ((List.range 1024).map fun y => (List.range 1024).countP fun x => n.covered x y).sum

/-- The plane equation of R234, in the width of the iterator. -/
def Grad.plane {w : Nat} (g : Grad w) (dx dy : Int) : BitVec w :=
  BitVec.ofInt w (g.start.toInt + dy * g.dy.toInt + dx * g.dx.toInt)

/-- The iterators of the FBI at pixel (x, y): whole pixels from the integer part of vertex A (R234). -/
def Snapshot.iterators (n : Snapshot) (x y : Nat) : PixelIter :=
  let dx : Int := x - n.va.x.toInt / 2 ^ n.frac
  let dy : Int := y - n.va.y.toInt / 2 ^ n.frac
  { a := n.a.plane dx dy, r := n.r.plane dx dy, g := n.g.plane dx dy, b := n.b.plane dx dy,
    z := n.z.plane dx dy, w := n.w.plane dx dy }

/-- Unit `u`'s part of a snapshot. -/
def Snapshot.unit (n : Snapshot) (u : Nat) : UnitSnapshot := if u = 0 then n.unit0 else n.unit1

/-- Three vertices on one line. -/
def colinear (a b c : Point) : Prop := (b.x - a.x) * (c.y - a.y) = (c.x - a.x) * (b.y - a.y)

/-! ## Counters (R28, R351) -/

/-- A counter's register and its part still in the statistics block, together. -/
def State.pixelsInTotal (s : State) : Word := s.reg 0 Reg.fbiPixelsIn + s.stats.pixelsIn
def State.pixelsOutTotal (s : State) : Word := s.reg 0 Reg.fbiPixelsOut + s.stats.pixelsOut
def State.chromaFailTotal (s : State) : Word := s.reg 0 Reg.fbiChromaFail + s.stats.chromaFail
def State.zfuncFailTotal (s : State) : Word := s.reg 0 Reg.fbiZfuncFail + s.stats.zfuncFail
def State.afuncFailTotal (s : State) : Word := s.reg 0 Reg.fbiAfuncFail + s.stats.afuncFail

/-- The pixels counted in that no counter has yet accounted for, modulo 2^32. -/
def State.unaccounted (s : State) : Word :=
  s.pixelsInTotal - s.pixelsOutTotal - s.stats.stippleCount - s.zfuncFailTotal - s.chromaFailTotal -
    s.afuncFailTotal

/-! ## Units that can be sampled (R185, R194, R305, R403) -/

/-- Unit `u` stops no pixel of the triangle: its LOD minimum takes it out of the chain (R305), or its format has
a lookup and the mip level of every covered pixel exists. -/
def State.unitSamples (s : State) (n : Snapshot) (u : Nat) : Prop :=
  let t := (freshUnit u s).tmu u
  t.lodmin.toInt < s.config.constants.lodOff →
    t.lookup ≠ .none ∧
    ∀ x y, n.covers x y →
      let i := n.unit u
      let dx : Int := x - n.va.x.toInt / 2 ^ n.frac
      let dy : Int := y - n.va.y.toInt / 2 ^ n.frac
      (texcoord s.config t (s.texReg u Reg.textureMode) x y (i.s.plane dx dy) (i.t.plane dx dy)
        (i.w.plane dx dy) i.lodbase).ilod ≤ 8

/-- A unit whose registers alone let no fetch be refused, under the stated constants: every mip level present, a
LOD maximum of at most 8.75, a format with a lookup. -/
def State.registersSample (s : State) (u : Nat) : Prop :=
  let format := TexMode.format s.config.constants (s.texReg u Reg.textureMode)
  TLod.tsplit (s.texReg u Reg.tLOD) = false ∧ TLod.lodmax s.config.constants (s.texReg u Reg.tLOD) ≤ 35 ∧
    format ≠ 7 ∧ format ≠ 15 ∧ (format = 6 → s.isV2 = true)

/-! ## What a triangle command leaves (R230, R240–R243) -/

/-- A triangle can be resolved: its key is in the cache, or the cache has room (R272, R274). -/
def State.cacheRoom (s : State) : Prop :=
  s.cache.entries.length < s.config.cacheMax ∨
    (s.cache.lookup (hashKey (makeKey (activeUnits s) s)) (makeKey (activeUnits s) s)).isSome = true

/-- A triangle command of slot `index` has drawn the triangle that `s` describes. `s` is the state the command
found, with the setup step of sDrawTriCMD already in it. -/
structure TriangleDrawn (index : Nat) (chips : BitVec 4) (value : Word) (s t : State) : Prop where
  result : t.result = none
  running : t.fatal = none
  config : t.config = s.config
  initEnable : t.initEnable = s.initEnable
  pciFifoSize : t.pciFifoSize = s.pciFifoSize
  dac : t.dac = s.dac
  pending : t.pending = s.pending
  slot : ∀ bank, bank < 4 → selected s.config chips bank = true → t.reg bank index = value
  counted : t.reg 0 Reg.fbiTrianglesOut = s.reg 0 Reg.fbiTrianglesOut + 1
  regs : ∀ bank i, bank < 4 → i < 256 → ¬ pipelineRegister bank i →
    ¬ (bank = 0 ∧ i = Reg.fbiTrianglesOut) → ¬ isSlot s.config chips index bank i → t.reg bank i = s.reg bank i
  fbi : t.fbi = { (adjusted s).fbi with ram := t.fbi.ram }
  tmu0 : (adjusted s).tmu0.sameProgram t.tmu0
  tmu1 : (adjusted s).tmu1.sameProgram t.tmu1
  bytes : ∀ a, (∀ x y, (snapshot (activeUnits s) (adjusted s)).covers x y →
    ¬ pixelByte s.fbi (drawBase s) x (screenY s y) a) → t.fbi.ram.read a = s.fbi.ram.read a

/-! ## The plain pipeline (R290, R352) -/

/-- Every optional stage of the pipeline is off. -/
structure PlainPipeline (s : State) : Prop where
  clip : FbzMode.enableClipping (s.reg 0 Reg.fbzMode) = false
  stipple : FbzMode.enableStipple (s.reg 0 Reg.fbzMode) = false
  depth : FbzMode.enableDepthbuf (s.reg 0 Reg.fbzMode) = false
  chroma : FbzMode.enableChromakey (s.reg 0 Reg.fbzMode) = false
  alphaMask : FbzMode.enableAlphaMask (s.reg 0 Reg.fbzMode) = false
  alphaTest : AlphaMode.test (s.reg 0 Reg.alphaMode) = false
  blend : AlphaMode.blend (s.reg 0 Reg.alphaMode) = false
  fog : FogMode.enable (s.reg 0 Reg.fogMode) = false

/-- The combined colour of an untextured pixel (R295, R317–R321). -/
def plainColour (s : State) (it : PixelIter) : Argb :=
  let cp := s.reg 0 Reg.fbzColorPath
  let zero : Argb := { a := 0, r := 0, g := 0, b := 0 }
  let ia := clampedArgb s.config.constants (wrapIterators s) it
  colourCombine s.config.constants s.isV2 cp
    (colourOther s.config.constants cp ia zero (Argb.unpack (s.reg 0 Reg.color1)))
    (colourLocal s cp ia zero (Argb.unpack (s.reg 0 Reg.color0)) it) zero

/-- The word a plain pixel writes to the colour buffer (R339, R340). -/
def plainColourWord (s : State) (x y : Nat) (it : PixelIter) : Half :=
  let c := plainColour s it
  dither565 s.config.constants (s.reg 0 Reg.fbzMode) c.r.toNat c.g.toNat c.b.toNat x y

/-- The word a plain pixel writes to the aux buffer: its alpha, or its depth (R340). -/
def plainAuxWord (s : State) (it : PixelIter) : Half :=
  if FbzMode.enableAlphaPlanes (s.reg 0 Reg.fbzMode) then BitVec.ofInt 16 (plainColour s it).a
  else BitVec.ofNat 16 (depthValue s it.z (wfloat s.config.constants it.w))

/-- The word at the byte of pixel (x, y) in a buffer at `b`, read in state `t` of the layout of `s`. -/
def pixelWord (s t : State) (b : Word) (x y : Nat) : Half :=
  fbWord (b.toNat + pixelOffset s.fbi x (screenY s y)) t.fbi

/-- The word of pixel (x, y) in a buffer at `b` lies inside RAM. -/
def pixelFits (s : State) (b : Word) (x y : Nat) : Prop :=
  b.toNat + pixelOffset s.fbi x (screenY s y) + 1 ≤ s.fbi.mask.toNat

/-- An untextured triangle with every optional stage off has drawn snapshot `n`: each covered pixel inside RAM
holds its own colour and its own depth or alpha, and each was counted in and out. Where both buffers are
written, what a word holds is said only if the colour and aux words lie apart. -/
structure PlainTriangle (n : Snapshot) (s t : State) : Prop where
  colour : FbzMode.rgbBufferMask (s.reg 0 Reg.fbzMode) = true →
    (FbzMode.auxBufferMask (s.reg 0 Reg.fbzMode) = true → wordsApart s (drawBase s) n.covers) →
    (∀ x y, n.covers x y → x < s.fbi.rowpixels.toNat) → rowsApart s n.covers →
    ∀ b x y, drawBase s = some b → n.covers x y → pixelFits s b x y →
    pixelWord s t b x y = plainColourWord s x y (n.iterators x y)
  aux : FbzMode.auxBufferMask (s.reg 0 Reg.fbzMode) = true →
    (FbzMode.rgbBufferMask (s.reg 0 Reg.fbzMode) = true → wordsApart s (drawBase s) n.covers) →
    (∀ x y, n.covers x y → x < s.fbi.rowpixels.toNat) → rowsApart s n.covers →
    ∀ b x y, s.fbi.auxoffs = some b → n.covers x y → pixelFits s b x y →
    pixelWord s t b x y = plainAuxWord s (n.iterators x y)
  pixelsIn : t.pixelsInTotal = s.pixelsInTotal + BitVec.ofNat 32 n.coveredCount
  pixelsOut : t.pixelsOutTotal = s.pixelsOutTotal + BitVec.ofNat 32 n.coveredCount
  chromaFail : t.chromaFailTotal = s.chromaFailTotal
  zfuncFail : t.zfuncFailTotal = s.zfuncFailTotal
  afuncFail : t.afuncFailTotal = s.afuncFailTotal
  stippleCount : t.stats.stippleCount = s.stats.stippleCount
  stipple : t.reg 0 Reg.stipple = s.reg 0 Reg.stipple

/-! ## Setup-mode triangles (R241–R243) -/

/-- sDrawTriCMD's ring after the vertex of the setup registers is appended (R241). -/
def Fbi.appended (s : State) : Fbi :=
  { s.fbi with
    svert0 := if SetupMode.fan (s.reg 0 Reg.sSetupMode) then s.fbi.svert0 else s.fbi.svert1,
    svert1 := s.fbi.svert2, svert2 := capture s, sverts := s.fbi.sverts + 1 }

/-- The state from which sDrawTriCMD's triangle is drawn: the ring, the vertex registers, and the gradients of
the enabled groups where the area is not zero (R243). -/
def State.setupDone (s : State) : State :=
  let s := s.setFbi (setupVertices s.config.constants.vertexFrac (Fbi.appended s))
  if floatIsZero (setupArea s.fbi) then s else setupGradients s

/-- The culling test rejects the triangle that appending the vertex of the setup registers makes (R242): the
sign of the area's reciprocal differs from the culling sign, which the parity of a strip exchanges. -/
def State.setupRejected (s : State) : Prop :=
  let mode := s.reg 0 Reg.sSetupMode
  let pingPong := !bit mode 16 && !bit mode 19 && (s.fbi.sverts + 1 - s.config.constants.cullParity).getLsbD 0
  bit mode 17 = true ∧
    (floatNegative (floatRecip (setupArea (Fbi.appended s))) != (bit mode 18 != pingPong)) ≠
      s.config.constants.cullOnMatch

/-! ## Reset (R53, R421) -/

/-- An NCC table holds the coefficients that its twelve registers `r` give. -/
structure Ncc.Holds (k : TableFields) (n : Ncc) (r : Nat → Word) : Prop where
  luma : ∀ i b, i < 4 → b < 4 → n.y.read (4 * i + b) = (r i).extractLsb' (k.luma * b) 8
  i : ∀ j, j < 4 → n.ir.read j = (r (4 + j)).extractLsb' k.nccRed 9 ∧
    n.ig.read j = (r (4 + j)).extractLsb' k.nccGreen 9 ∧ n.ib.read j = (r (4 + j)).extractLsb' k.nccBlue 9
  q : ∀ j, j < 4 → n.qr.read j = (r (8 + j)).extractLsb' k.nccRed 9 ∧
    n.qg.read j = (r (8 + j)).extractLsb' k.nccGreen 9 ∧ n.qb.read j = (r (8 + j)).extractLsb' k.nccBlue 9

/-! ## Positions of an LFB write (R104, R363) -/

/-- The pixels an LFB_WR can touch: two of a 16-bit pair, or one 32-bit one. -/
def lfbPositions (k : Constants) (mode offset : Word) : List Position :=
  if LfbMode.writeFormat k mode ∈ [0, 1, 2, 15] then
    let p := lfbPairPosition k offset
    [p, { p with x := p.x + 1 }]
  else [lfbSinglePosition k offset]

/-- The row of framebuffer RAM an LFB_WR writes: lfbMode's own flip in raw mode, fbzMode's in pipelined mode
(R367, R369, R439). -/
def lfbWriteRow (s : State) (y : Nat) : Nat :=
  if LfbMode.enablePipeline (s.reg 0 Reg.lfbMode) then screenY s y else lfbRow s y

end Sys2Proof.Machine
end

