-- ==== Sys2Proof/Certificates/Slice0/Obligations.lean ====
section
/-! DEFINITION. The statements for the provers, in the order of OBLIGATIONS.json. `Accepts`, `Stores`,
`selected`, `TriangleDrawn` and the other terms are in Sys2Proof/Safety.lean. -/

open Sys2Proof Sys2Proof.Machine

/-- Decoding the encoding of a well-formed instruction gives it back (R100, R101, R108). -/
def Obligations.DecodeInvertsEncode : Prop :=
  ∀ i : Instr, i.wf = true → decode (encode i) = .ok i

/-- Every bus operation but a bad RESET decodes, and what decodes is well-formed (R100, R109). -/
def Obligations.DecodeIsTotalAndWellFormed : Prop :=
  (∀ c : BusCycle, (∀ config policy, c ≠ .reset config policy) → ∃ i, decode c = .ok i) ∧
    ∀ (c : BusCycle) (i : Instr), decode c = .ok i → i.wf = true

/-- A few words written out from the encoding tables decode to their instructions (R101, R102, R108). It
rests in part on choices of the model: notes/assumptions/36.md, notes/assumptions/32.md. -/
def Obligations.WordsOfTheTableDecode : Prop :=
  decodeTableWord 64 0x00FFF00000000108 = some (.startR 1 0x00FFF000) ∧
    decodeTableWord 64 0x0000030000000144 = some (.fbzMode 1 0x300) ∧
    decodeTableWord 32 0x00000020 = some (.triangleCMD 0 0) ∧
    decodeTableWord 64 0x4020100800000158 = some (.fogTable0 1 0x40201008) ∧
    decodeTableWord 64 0x000A000000000186 = some (.fbiInit2 1 0x000A0000) ∧
    decodeTableWord 32 0x000001A8 = some (.sDrawTriCMD 1 0) ∧
    decodeTableWord 64 0x00000A0100000EC0 = some (.textureMode 14 0xA01) ∧
    decodeTableWord 64 0x80FF8040000002E0 = some (.ncc1Entry11 2 0x80FF8040) ∧
    decodeTableWord 64 0xFFFFFFFF000FFFFF = some .reservedFF

/-- A step runs the instruction that the host's next bus operation decodes to (R91, R100). It rests in part
on choices of the model: notes/assumptions/1.md, notes/assumptions/4.md, notes/assumptions/22.md. -/
def Obligations.StepRunsTheDecodedOperation : Prop :=
  (∀ (s : State) (c : BusCycle) (rest : List BusCycle) (i : Instr), s.pending = c :: rest →
      decode (hostCycle s c) = .ok i → step s = hostAnswer s c (exec i { s with pending := rest })) ∧
    (∀ (s : State) (c : BusCycle) (rest : List BusCycle) (i : Instr), s.pending = c :: rest →
      s.config.regMap = none → s.config.access = none → decode c = .ok i →
      step s = exec i { s with pending := rest }) ∧
    (∀ (s : State) (c : BusCycle) (rest : List BusCycle) (why : DecodeError), s.pending = c :: rest →
      decode (hostCycle s c) = .error why → step s = .refused (.undecodable why)) ∧
    ∀ s : State, s.pending = [] → step s = .next s

/-- A register operation is that of the register its effective index names, and under REGMAP that of the
register the map names (R31, R103, R137, R139, R160, R409). It rests in part on choices of the model:
notes/assumptions/6.md, notes/assumptions/22.md, notes/assumptions/4.md, notes/assumptions/40.md. -/
def Obligations.AliasedAccessIsTheAccessItMapsTo : Prop :=
  (∀ (s : State) (offset : Word), effectiveIndex s offset =
      if s.config.variant = .v1 ∧ bit (s.reg 0 Reg.fbiInit3) 0 = true ∧
        bit offset (12 + (s.config.aliasSel.getD Config.freeAliasSel).val) = true ∧ field offset 0 8 < 64
      then (match s.config.aliasMap with
        | none => Config.freeAliasMap (offset.extractLsb' 0 6)
        | some t => t.read (field offset 0 6)).toNat
      else field offset 0 8) ∧
    (∀ (s : State) (offset value : Word) (i : Instr),
      decode (grantCycle s
        (.regWr (regOffset (BitVec.ofNat 8 (effectiveIndex s offset)) (offset.extractLsb' 8 4)) value)) = .ok i →
      exec (.regWr offset value) s = exec i s) ∧
    (∀ (s : State) (offset : Word) (i : Instr),
      decode (.regRd (regOffset (BitVec.ofNat 8 (effectiveIndex s offset)) (offset.extractLsb' 8 4))) = .ok i →
      exec (.regRd offset) s = exec i s) ∧
    (∀ (s : State) (offset value : Word), effectOf (effectiveIndex s offset) = .stored →
      Accepts s (effectiveIndex s offset) →
      ∃ t, exec (.regWr offset value) s = .next t ∧
        Stores (effectiveIndex s offset) (offset.extractLsb' 8 4) value s t ∧
        t = { s with regs := t.regs, result := none }) ∧
    ∀ (s : State) (m : RegMap) (offset value : Word), s.config.regMap = some m → m.wf = true →
      let n := (m.index.getD (effectiveIndex s offset) 0).val
      let chips : BitVec 4 := m.chips.getD (field offset 8 4) 0
      let coded := fun (c : FieldCodes) (j : Nat) => c.low.val ≤ j ∧ j < c.low.val + c.width.val
      (∃ p w, mapCycle s (.regWr offset value) = .regWr (regOffset (BitVec.ofNat 8 n) chips) w ∧
        ((∀ f ∈ m.fields, f.1.val ≠ n) → p = value) ∧
        (∀ f ∈ m.fields, f.1.val = n → ∀ j, j < 32 → bit p j = bit value (f.2.getD j 0).val) ∧
        (∀ j, (∀ c ∈ m.codes, c.register.val = n → ¬ coded c j) → bit w j = bit p j) ∧
        (∀ c ∈ m.codes, c.register.val = n →
          field w c.low.val c.width.val = c.codes.getD (field p c.low.val c.width.val) 0) ∧
        toHostBits m n w = value) ∧
      mapCycle s (.regRd offset) = .regRd (regOffset (BitVec.ofNat 8 n) chips) ∧
      ∀ t : State, hostAnswer s (.regRd offset) (.next t) = .next
        (if readable s.config n = true ∧ ¬ (n = 0x86 ∧ bit s.initEnable s.config.constants.dacReadBit.val = true)
          then { t with result := t.result.map (toHostBits m n) } else t)

/-- An accepted write of a mode, colour, video, setup-vertex or other plain register stores the word and no
more (R131, R147, R154, R161, R163). -/
def Obligations.PlainRegistersAreStored : Prop :=
  ∀ p ∈ ([(0x00, .status), (0x01, .intrCtrl), (0x41, .fbzColorPath), (0x42, .fogMode), (0x43, .alphaMode),
      (0x44, .fbzMode), (0x45, .lfbMode), (0x46, .clipLeftRight), (0x47, .clipLowYHighY),
      (0x4B, .fogColor), (0x4C, .zaColor), (0x4D, .chromaKey), (0x4E, .chromaRange),
      (0x4F, .userIntrCMD), (0x50, .stipple), (0x51, .color0), (0x52, .color1), (0x53, .fbiPixelsIn),
      (0x54, .fbiChromaFail), (0x55, .fbiZfuncFail), (0x56, .fbiAfuncFail), (0x57, .fbiPixelsOut),
      (0x78, .cmdFifo78), (0x79, .cmdFifo79), (0x7A, .cmdFifo7A), (0x7B, .cmdFifo7B),
      (0x7C, .cmdFifo7C), (0x7D, .cmdFifo7D), (0x7E, .cmdFifo7E), (0x7F, .cmdFifo7F),
      (0x81, .vRetrace), (0x82, .backPorch), (0x83, .videoDimensions), (0x88, .hSync), (0x89, .vSync),
      (0x8A, .clutData), (0x8C, .maxRgbDelta), (0x8D, .hBorder), (0x8E, .vBorder),
      (0x8F, .borderColor), (0x90, .hvRetrace), (0x96, .fbiSwapHistory), (0x97, .fbiTrianglesOut),
      (0x98, .sSetupMode), (0x99, .sVx), (0x9A, .sVy), (0x9C, .sRed), (0x9D, .sGreen), (0x9E, .sBlue),
      (0x9F, .sAlpha), (0xA0, .sVz), (0xA1, .sWb), (0xA2, .sWtmu0), (0xA3, .sS_W0), (0xA4, .sT_W0),
      (0xA5, .sWtmu1), (0xA6, .sS_Wtmu1), (0xA7, .sT_Wtmu1), (0xAA, .v2xAA), (0xAB, .v2xAB),
      (0xAC, .v2xAC), (0xAD, .v2xAD), (0xAE, .v2xAE), (0xAF, .v2xAF), (0xB0, .v2xB0), (0xB1, .v2xB1),
      (0xB2, .v2xB2), (0xB3, .v2xB3), (0xB4, .v2xB4), (0xB5, .v2xB5), (0xB6, .v2xB6), (0xB7, .v2xB7),
      (0xB8, .v2xB8), (0xB9, .v2xB9), (0xBA, .v2xBA), (0xBB, .v2xBB), (0xBC, .v2xBC), (0xBD, .v2xBD),
      (0xBE, .v2xBE), (0xBF, .v2xBF), (0xC7, .trexInit0), (0xC8, .trexInit1)] :
      List (Nat × (BitVec 4 → Word → Instr))),
    ∀ (k : BitVec 4) (v : Word) (s : State), Accepts s p.1 →
    ∃ t, exec (p.2 k v) s = .next t ∧ Stores p.1 k v s t ∧ t = { s with regs := t.regs, result := none }

/-- A write of a read-only register or of a reserved index completes and changes nothing (R30, R132, R401).
It rests in part on choices of the model: notes/assumptions/22.md. -/
def Obligations.ReadOnlyAndReservedWritesDoNothing : Prop :=
  (∀ p ∈ ([(0x00, .status), (0x53, .fbiPixelsIn), (0x54, .fbiChromaFail), (0x55, .fbiZfuncFail),
      (0x56, .fbiAfuncFail), (0x57, .fbiPixelsOut), (0x81, .vRetrace), (0x90, .hvRetrace),
      (0x96, .fbiSwapHistory), (0x97, .fbiTrianglesOut)] :
      List (Nat × (BitVec 4 → Word → Instr))),
      ∀ (k : BitVec 4) (v : Word) (s : State), s.fatal = none → s.config.access = none →
      exec (p.2 k v) s = .next { s with result := none }) ∧
    ∀ i ∈ ([.reserved21, .reserved94, .reserved95, .reservedE1, .reservedE2, .reservedE3, .reservedE4,
      .reservedE5, .reservedE6, .reservedE7, .reservedE8, .reservedE9, .reservedEA, .reservedEB,
      .reservedEC, .reservedED, .reservedEE, .reservedEF, .reservedF0, .reservedF1, .reservedF2,
      .reservedF3, .reservedF4, .reservedF5, .reservedF6, .reservedF7, .reservedF8, .reservedF9,
      .reservedFA, .reservedFB, .reservedFC, .reservedFD, .reservedFE, .reservedFF] :
      List Instr),
      ∀ s : State, s.fatal = none → exec i s = .next { s with result := none }

/-- A write with no write right, or to fbiInit0–fbiInit7 with the gate closed, changes no state (R132, R134,
R401, R407, R408). -/
def Obligations.GatedWritesChangeNothing : Prop :=
  ∀ (index : BitVec 8) (chips : BitVec 4) (v : Word) (i : Instr) (s : State),
    decode (.regWr (regOffset index chips) v) = .ok i → s.fatal = none →
    (writable s.config index.toNat = false ∨ (isFbiInit index.toNat = true ∧ bit s.initEnable 0 = false)) →
    exec i s = .next { s with result := none }

/-- Writing a register marked not-writable never changes what a later read answers (R165). -/
def Obligations.UnwritableNeverChangesReads : Prop :=
  ∀ (index : BitVec 8) (chips : BitVec 4) (v offset : Word) (i j : Instr) (s t : State),
    decode (.regWr (regOffset index chips) v) = .ok i → writable s.config index.toNat = false →
    exec i s = .next t → decode (.regRd offset) = .ok j → exec j t = exec j s

/-- A read after a write of a read+write register returns the written word (R24, R160, R164). It rests in
part on choices of the model: notes/assumptions/40.md. -/
def Obligations.ReadWriteRegistersRoundTrip : Prop :=
  (∀ (index : BitVec 8) (chips chips' : BitVec 4) (v : Word) (i j : Instr) (s : State),
      s.config.access = none → readable s.config index.toNat = true → Accepts s index.toNat →
      selected s.config chips 0 = true →
      ¬ (index = 0x86 ∧ bit s.initEnable s.config.constants.dacReadBit.val = true) →
      decode (.regWr (regOffset index chips) v) = .ok i → decode (.regRd (regOffset index chips')) = .ok j →
      ∃ t, exec i s = .next t ∧ ∃ u, exec j t = .next u ∧ u.result = some v) ∧
    Constants.standard.dacReadBit = 2

/-- A write of a vertex register sets its 12.4 coordinate from the low 16 bits (R142). -/
def Obligations.VertexWritesSetTheCoordinate : Prop :=
  ∀ p ∈ ([(0x02, .vertexAx, fun f h => { f with va := { f.va with x := h } }),
      (0x03, .vertexAy, fun f h => { f with va := { f.va with y := h } }),
      (0x04, .vertexBx, fun f h => { f with vb := { f.vb with x := h } }),
      (0x05, .vertexBy, fun f h => { f with vb := { f.vb with y := h } }),
      (0x06, .vertexCx, fun f h => { f with vc := { f.vc with x := h } }),
      (0x07, .vertexCy, fun f h => { f with vc := { f.vc with y := h } })] :
      List (Nat × (BitVec 4 → Word → Instr) × (Fbi → Half → Fbi))),
      ∀ (k : BitVec 4) (v : Word) (s : State), Accepts s p.1 →
      ∃ t, exec (p.2.1 k v) s = .next t ∧ Stores p.1 k v s t ∧
        t = { s with
          regs := t.regs, result := none,
          fbi :=
            if selected s.config k 0 = true then
              p.2.2 s.fbi (v.extractLsb' 0 16)
            else s.fbi }

/-- A write of a colour iterator register sets its sign-extended 24 bits, of a depth register the whole word
(R143, R144). It rests in part on choices of the model: notes/assumptions/40.md. -/
def Obligations.ColourAndDepthWritesSetTheIterator : Prop :=
  (∀ p ∈ ([(0x08, .startR, fun f v => { f with r := { f.r with start := v } }),
      (0x09, .startG, fun f v => { f with g := { f.g with start := v } }),
      (0x0A, .startB, fun f v => { f with b := { f.b with start := v } }),
      (0x0C, .startA, fun f v => { f with a := { f.a with start := v } }),
      (0x10, .dRdX, fun f v => { f with r := { f.r with dx := v } }),
      (0x11, .dGdX, fun f v => { f with g := { f.g with dx := v } }),
      (0x12, .dBdX, fun f v => { f with b := { f.b with dx := v } }),
      (0x14, .dAdX, fun f v => { f with a := { f.a with dx := v } }),
      (0x18, .dRdY, fun f v => { f with r := { f.r with dy := v } }),
      (0x19, .dGdY, fun f v => { f with g := { f.g with dy := v } }),
      (0x1A, .dBdY, fun f v => { f with b := { f.b with dy := v } }),
      (0x1C, .dAdY, fun f v => { f with a := { f.a with dy := v } })] :
      List (Nat × (BitVec 4 → Word → Instr) × (Fbi → Word → Fbi))),
      ∀ (k : BitVec 4) (v : Word) (s : State), Accepts s p.1 →
      ∃ t, exec (p.2.1 k v) s = .next t ∧ Stores p.1 k v s t ∧
        t = { s with
          regs := t.regs, result := none,
          fbi :=
            if selected s.config k 0 = true then
              p.2.2 s.fbi (BitVec.ofInt 32 (sext s.config.constants.colourBits (field v 0 s.config.constants.colourBits)))
            else s.fbi }) ∧
    (∀ p ∈ ([(0x0B, .startZ, fun f v => { f with z := { f.z with start := v } }),
      (0x13, .dZdX, fun f v => { f with z := { f.z with dx := v } }),
      (0x1B, .dZdY, fun f v => { f with z := { f.z with dy := v } })] :
      List (Nat × (BitVec 4 → Word → Instr) × (Fbi → Word → Fbi))),
      ∀ (k : BitVec 4) (v : Word) (s : State), Accepts s p.1 →
      ∃ t, exec (p.2.1 k v) s = .next t ∧ Stores p.1 k v s t ∧
        t = { s with
          regs := t.regs, result := none,
          fbi :=
            if selected s.config k 0 = true then
              p.2.2 s.fbi (v)
            else s.fbi }) ∧
    Constants.standard.colourBits = 24 ∧
    ∀ v : Word, BitVec.ofInt 32 (sext 24 (field v 0 24)) = (v.extractLsb' 0 24).signExtend 32

/-- A write of a float-encoded vertex, colour or depth register sets the same state as its integer register
(R148). It rests in part on choices of the model: notes/assumptions/40.md. -/
def Obligations.FloatVertexAndIteratorWritesConvert : Prop :=
  (∀ p ∈ ([(0x22, .fvertexAx, fun f h => { f with va := { f.va with x := h } }),
      (0x23, .fvertexAy, fun f h => { f with va := { f.va with y := h } }),
      (0x24, .fvertexBx, fun f h => { f with vb := { f.vb with x := h } }),
      (0x25, .fvertexBy, fun f h => { f with vb := { f.vb with y := h } }),
      (0x26, .fvertexCx, fun f h => { f with vc := { f.vc with x := h } }),
      (0x27, .fvertexCy, fun f h => { f with vc := { f.vc with y := h } })] :
      List (Nat × (BitVec 4 → Word → Instr) × (Fbi → Half → Fbi))),
      ∀ (k : BitVec 4) (v : Word) (s : State), Accepts s p.1 →
      ∃ t, exec (p.2.1 k v) s = .next t ∧ Stores p.1 k v s t ∧
        t = { s with
          regs := t.regs, result := none,
          fbi :=
            if selected s.config k 0 = true then
              p.2.2 s.fbi ((floatToFixed 32 s.config.constants.vertexFrac v).extractLsb' 0 16)
            else s.fbi }) ∧
    (∀ p ∈ ([(0x28, .fstartR, fun f v => { f with r := { f.r with start := v } }),
      (0x29, .fstartG, fun f v => { f with g := { f.g with start := v } }),
      (0x2A, .fstartB, fun f v => { f with b := { f.b with start := v } }),
      (0x2C, .fstartA, fun f v => { f with a := { f.a with start := v } }),
      (0x30, .fdRdX, fun f v => { f with r := { f.r with dx := v } }),
      (0x31, .fdGdX, fun f v => { f with g := { f.g with dx := v } }),
      (0x32, .fdBdX, fun f v => { f with b := { f.b with dx := v } }),
      (0x34, .fdAdX, fun f v => { f with a := { f.a with dx := v } }),
      (0x38, .fdRdY, fun f v => { f with r := { f.r with dy := v } }),
      (0x39, .fdGdY, fun f v => { f with g := { f.g with dy := v } }),
      (0x3A, .fdBdY, fun f v => { f with b := { f.b with dy := v } }),
      (0x3C, .fdAdY, fun f v => { f with a := { f.a with dy := v } })] :
      List (Nat × (BitVec 4 → Word → Instr) × (Fbi → Word → Fbi))),
      ∀ (k : BitVec 4) (v : Word) (s : State), Accepts s p.1 →
      ∃ t, exec (p.2.1 k v) s = .next t ∧ Stores p.1 k v s t ∧
        t = { s with
          regs := t.regs, result := none,
          fbi :=
            if selected s.config k 0 = true then
              p.2.2 s.fbi (floatToFixed 32 s.config.constants.floats.colour v)
            else s.fbi }) ∧
    (∀ p ∈ ([(0x2B, .fstartZ, fun f v => { f with z := { f.z with start := v } }),
      (0x33, .fdZdX, fun f v => { f with z := { f.z with dx := v } }),
      (0x3B, .fdZdY, fun f v => { f with z := { f.z with dy := v } })] :
      List (Nat × (BitVec 4 → Word → Instr) × (Fbi → Word → Fbi))),
      ∀ (k : BitVec 4) (v : Word) (s : State), Accepts s p.1 →
      ∃ t, exec (p.2.1 k v) s = .next t ∧ Stores p.1 k v s t ∧
        t = { s with
          regs := t.regs, result := none,
          fbi :=
            if selected s.config k 0 = true then
              p.2.2 s.fbi (floatToFixed 32 s.config.constants.floats.depth v)
            else s.fbi }) ∧
    Constants.standard.vertexFrac = 4 ∧ Constants.standard.floats.colour = 12 ∧
    Constants.standard.floats.depth = 12

/-- A write of an S or T register sets that iterator of every selected unit and of nothing else (R145,
R148). It rests in part on choices of the model: notes/assumptions/40.md. -/
def Obligations.TextureCoordinateWritesSetTheUnits : Prop :=
  (∀ p ∈ ([(0x0D, .startS, fun t v => { t with s := { t.s with start := v } }),
      (0x0E, .startT, fun t v => { t with t := { t.t with start := v } }),
      (0x15, .dSdX, fun t v => { t with s := { t.s with dx := v } }),
      (0x16, .dTdX, fun t v => { t with t := { t.t with dx := v } }),
      (0x1D, .dSdY, fun t v => { t with s := { t.s with dy := v } }),
      (0x1E, .dTdY, fun t v => { t with t := { t.t with dy := v } })] :
      List (Nat × (BitVec 4 → Word → Instr) × (Tmu → DWord → Tmu))),
      ∀ (k : BitVec 4) (v : Word) (s : State), Accepts s p.1 →
      ∃ t, exec (p.2.1 k v) s = .next t ∧ Stores p.1 k v s t ∧
        t = { s with
          regs := t.regs, result := none,
          tmu0 :=
            if selected s.config k 1 = true then p.2.2 s.tmu0 (v.signExtend 64 <<< 14)
            else s.tmu0,
          tmu1 :=
            if selected s.config k 2 = true then p.2.2 s.tmu1 (v.signExtend 64 <<< 14)
            else s.tmu1 }) ∧
    (∀ p ∈ ([(0x2D, .fstartS, fun t v => { t with s := { t.s with start := v } }),
      (0x2E, .fstartT, fun t v => { t with t := { t.t with start := v } }),
      (0x35, .fdSdX, fun t v => { t with s := { t.s with dx := v } }),
      (0x36, .fdTdX, fun t v => { t with t := { t.t with dx := v } }),
      (0x3D, .fdSdY, fun t v => { t with s := { t.s with dy := v } }),
      (0x3E, .fdTdY, fun t v => { t with t := { t.t with dy := v } })] :
      List (Nat × (BitVec 4 → Word → Instr) × (Tmu → DWord → Tmu))),
      ∀ (k : BitVec 4) (v : Word) (s : State), Accepts s p.1 →
      ∃ t, exec (p.2.1 k v) s = .next t ∧ Stores p.1 k v s t ∧
        t = { s with
          regs := t.regs, result := none,
          tmu0 :=
            if selected s.config k 1 = true then p.2.2 s.tmu0 (floatToFixed 64 s.config.constants.floats.tex v)
            else s.tmu0,
          tmu1 :=
            if selected s.config k 2 = true then p.2.2 s.tmu1 (floatToFixed 64 s.config.constants.floats.tex v)
            else s.tmu1 }) ∧
    Constants.standard.floats.tex = 32

/-- A write of a W register sets W of the FBI and of every unit that is selected (R146, R148). It rests in
part on choices of the model: notes/assumptions/40.md. -/
def Obligations.WWritesSetEverySelectedSubChip : Prop :=
  (∀ p ∈ ([(0x0F, .startW, fun g v => { g with start := v }),
      (0x17, .dWdX, fun g v => { g with dx := v }),
      (0x1F, .dWdY, fun g v => { g with dy := v })] :
      List (Nat × (BitVec 4 → Word → Instr) × (Grad 64 → DWord → Grad 64))),
      ∀ (k : BitVec 4) (v : Word) (s : State), Accepts s p.1 →
      ∃ t, exec (p.2.1 k v) s = .next t ∧ Stores p.1 k v s t ∧
        t = { s with
          regs := t.regs, result := none,
          fbi :=
            if selected s.config k 0 = true then { s.fbi with w := p.2.2 s.fbi.w (v.signExtend 64 <<< s.config.constants.wShift) }
            else s.fbi,
          tmu0 :=
            if selected s.config k 1 = true then { s.tmu0 with w := p.2.2 s.tmu0.w (v.signExtend 64 <<< s.config.constants.wShift) }
            else s.tmu0,
          tmu1 :=
            if selected s.config k 2 = true then { s.tmu1 with w := p.2.2 s.tmu1.w (v.signExtend 64 <<< s.config.constants.wShift) }
            else s.tmu1 }) ∧
    (∀ p ∈ ([(0x2F, .fstartW, fun g v => { g with start := v }),
      (0x37, .fdWdX, fun g v => { g with dx := v }),
      (0x3F, .fdWdY, fun g v => { g with dy := v })] :
      List (Nat × (BitVec 4 → Word → Instr) × (Grad 64 → DWord → Grad 64))),
      ∀ (k : BitVec 4) (v : Word) (s : State), Accepts s p.1 →
      ∃ t, exec (p.2.1 k v) s = .next t ∧ Stores p.1 k v s t ∧
        t = { s with
          regs := t.regs, result := none,
          fbi :=
            if selected s.config k 0 = true then { s.fbi with w := p.2.2 s.fbi.w (floatToFixed 64 s.config.constants.floats.w v) }
            else s.fbi,
          tmu0 :=
            if selected s.config k 1 = true then { s.tmu0 with w := p.2.2 s.tmu0.w (floatToFixed 64 s.config.constants.floats.w v) }
            else s.tmu0,
          tmu1 :=
            if selected s.config k 2 = true then { s.tmu1 with w := p.2.2 s.tmu1.w (floatToFixed 64 s.config.constants.floats.w v) }
            else s.tmu1 }) ∧
    Constants.standard.wShift = 16 ∧ Constants.standard.floats.w = 32

/-- float_to_fixed truncates the magnitude, keeps it modulo the width, and saturates beyond the width
(R148). -/
def Obligations.FloatDecodingTruncatesTheMagnitude : Prop :=
  ∀ (w fixedbits : Nat) (data : Word), w = 32 ∨ w = 64 →
    let e : Int := (field data 23 8 : Int) - 150 + fixedbits
    let m : Nat := field data 0 23 + 2 ^ 23
    let sign : Int := if bit data 31 = true then -1 else 1
    (e < 0 → (floatToFixed w fixedbits data).toInt = sign * ((m / 2 ^ (-e).toNat : Nat) : Int)) ∧
    (0 ≤ e → e < w → floatToFixed w fixedbits data = BitVec.ofInt w (sign * ((m * 2 ^ e.toNat : Nat) : Int))) ∧
    (w ≤ e → (floatToFixed w fixedbits data).toInt = sign * (2 ^ (w - 1) - 1))

/-- A write of fogTable[n] sets entries 2n and 2n+1 of both fog tables (R157). -/
def Obligations.FogTableWritesFillTwoEntries : Prop :=
  ∀ p ∈ ([(0, .fogTable0), (1, .fogTable1), (2, .fogTable2), (3, .fogTable3), (4, .fogTable4),
      (5, .fogTable5), (6, .fogTable6), (7, .fogTable7), (8, .fogTable8), (9, .fogTable9),
      (10, .fogTable10), (11, .fogTable11), (12, .fogTable12), (13, .fogTable13), (14, .fogTable14),
      (15, .fogTable15), (16, .fogTable16), (17, .fogTable17), (18, .fogTable18), (19, .fogTable19),
      (20, .fogTable20), (21, .fogTable21), (22, .fogTable22), (23, .fogTable23), (24, .fogTable24),
      (25, .fogTable25), (26, .fogTable26), (27, .fogTable27), (28, .fogTable28), (29, .fogTable29),
      (30, .fogTable30), (31, .fogTable31)] :
      List (Nat × (BitVec 4 → Word → Instr))),
    ∀ (k : BitVec 4) (v : Word) (s : State), Accepts s (0x58 + p.1) →
    s.fbi.fogdelta.wf = true → s.fbi.fogblend.wf = true →
    ∃ t, exec (p.2 k v) s = .next t ∧ Stores (0x58 + p.1) k v s t ∧
      t = { s with
        regs := t.regs, result := none,
        fbi := { s.fbi with fogdelta := t.fbi.fogdelta, fogblend := t.fbi.fogblend } } ∧
      (selected s.config k 0 = true →
        t.fbi.fogdelta.read (2 * p.1) = v.extractLsb' 0 8 ∧ t.fbi.fogblend.read (2 * p.1) = v.extractLsb' 8 8 ∧
        t.fbi.fogdelta.read (2 * p.1 + 1) = v.extractLsb' 16 8 ∧
        t.fbi.fogblend.read (2 * p.1 + 1) = v.extractLsb' 24 8 ∧
        ∀ i, i ≠ 2 * p.1 → i ≠ 2 * p.1 + 1 →
          t.fbi.fogdelta.read i = s.fbi.fogdelta.read i ∧ t.fbi.fogblend.read i = s.fbi.fogblend.read i) ∧
      (selected s.config k 0 = false → t.fbi = s.fbi)

/-- A write of an NCC register is ncc_write on every selected unit; a palette write stores no slot (R158).
-/
def Obligations.NccWritesReachTheSelectedUnits : Prop :=
  (∀ p ∈ ([(0, .ncc0Entry0), (1, .ncc0Entry1), (2, .ncc0Entry2), (3, .ncc0Entry3), (4, .ncc0Entry4),
      (5, .ncc0Entry5), (6, .ncc0Entry6), (7, .ncc0Entry7), (8, .ncc0Entry8), (9, .ncc0Entry9),
      (10, .ncc0Entry10), (11, .ncc0Entry11)] :
      List (Nat × (BitVec 4 → Word → Instr))),
      ∀ (k : BitVec 4) (v : Word) (s : State), Accepts s (0xC9 + p.1) →
      ∃ t, exec (p.2 k v) s = .next t ∧ t.result = none ∧
        (4 ≤ p.1 ∧ bit v 31 = true → t.regs = s.regs) ∧
        (¬ (4 ≤ p.1 ∧ bit v 31 = true) → Stores (0xC9 + p.1) k v s t) ∧
        t = { s with
          regs := t.regs, result := none,
          tmu0 := if selected s.config k 1 = true then nccWrite s.config.constants s.isV2 0 p.1 v s.tmu0 else s.tmu0,
          tmu1 := if selected s.config k 2 = true then nccWrite s.config.constants s.isV2 0 p.1 v s.tmu1 else s.tmu1 }) ∧
    ∀ p ∈ ([(0, .ncc1Entry0), (1, .ncc1Entry1), (2, .ncc1Entry2), (3, .ncc1Entry3), (4, .ncc1Entry4),
      (5, .ncc1Entry5), (6, .ncc1Entry6), (7, .ncc1Entry7), (8, .ncc1Entry8), (9, .ncc1Entry9),
      (10, .ncc1Entry10), (11, .ncc1Entry11)] :
      List (Nat × (BitVec 4 → Word → Instr))),
      ∀ (k : BitVec 4) (v : Word) (s : State), Accepts s (0xD5 + p.1) →
      ∃ t, exec (p.2 k v) s = .next t ∧ t.result = none ∧
        (4 ≤ p.1 ∧ bit v 31 = true → t.regs = s.regs) ∧
        (¬ (4 ≤ p.1 ∧ bit v 31 = true) → Stores (0xD5 + p.1) k v s t) ∧
        t = { s with
          regs := t.regs, result := none,
          tmu0 := if selected s.config k 1 = true then nccWrite s.config.constants s.isV2 1 p.1 v s.tmu0 else s.tmu0,
          tmu1 := if selected s.config k 2 = true then nccWrite s.config.constants s.isV2 1 p.1 v s.tmu1 else s.tmu1 }

/-- ncc_write sets four lumas, one I set, one Q set or one palette entry, and leaves the rest of the unit
(R53, R190, R191). It rests in part on choices of the model: notes/assumptions/40.md. -/
def Obligations.NccWriteFillsCoefficientsOrPalette : Prop :=
  (∀ (k : Constants) (v2 : Bool) (table : Fin 2) (n : Nat) (data : Word) (t : Tmu), t.ok = true → n < 12 →
    let f := k.tables
    let e := k.expand
    let six := fun low : Nat => x6to8 e (field data low f.channelBits)
    let entry := (field data f.index f.indexBits * 2 ^ f.indexUp + n % 2 ^ f.indexUp) % 256
    let u := nccWrite k v2 table n data t
    let c := u.ncc table
    let o := t.ncc table
    u = { t with ncc0 := u.ncc0, ncc1 := u.ncc1, palette := u.palette, palettea := u.palettea } ∧
    u.ncc (1 - table) = t.ncc (1 - table) ∧ c.texel = o.texel ∧
    (n < 4 → c.dirty = true ∧ u.palette = t.palette ∧ u.palettea = t.palettea ∧
      (∀ b, b < 4 → c.y.read (4 * n + b) = data.extractLsb' (f.luma * b) 8) ∧
      (∀ j, j / 4 ≠ n → c.y.read j = o.y.read j) ∧
      c.ir = o.ir ∧ c.ig = o.ig ∧ c.ib = o.ib ∧ c.qr = o.qr ∧ c.qg = o.qg ∧ c.qb = o.qb) ∧
    (4 ≤ n → n < 8 → bit data 31 = false → c.dirty = true ∧ u.palette = t.palette ∧ u.palettea = t.palettea ∧
      (∀ j, c.ir.read j = if j = n - 4 then data.extractLsb' f.nccRed 9 else o.ir.read j) ∧
      (∀ j, c.ig.read j = if j = n - 4 then data.extractLsb' f.nccGreen 9 else o.ig.read j) ∧
      (∀ j, c.ib.read j = if j = n - 4 then data.extractLsb' f.nccBlue 9 else o.ib.read j) ∧
      c.y = o.y ∧ c.qr = o.qr ∧ c.qg = o.qg ∧ c.qb = o.qb) ∧
    (8 ≤ n → bit data 31 = false → c.dirty = true ∧ u.palette = t.palette ∧ u.palettea = t.palettea ∧
      (∀ j, c.qr.read j = if j = n - 8 then data.extractLsb' f.nccRed 9 else o.qr.read j) ∧
      (∀ j, c.qg.read j = if j = n - 8 then data.extractLsb' f.nccGreen 9 else o.qg.read j) ∧
      (∀ j, c.qb.read j = if j = n - 8 then data.extractLsb' f.nccBlue 9 else o.qb.read j) ∧
      c.y = o.y ∧ c.ir = o.ir ∧ c.ig = o.ig ∧ c.ib = o.ib) ∧
    (4 ≤ n → bit data 31 = true → c = o ∧
      (∀ j, u.palette.read j =
        if j = entry then (e.solid ++ BitVec.ofNat 24 (field data f.colour f.colourBits) : BitVec 32)
        else t.palette.read j) ∧
      ∀ j, u.palettea.read j =
        if v2 = true ∧ j = entry then
          packArgb (six f.alpha) (six f.red) (six f.green) (six f.blue)
        else t.palettea.read j)) ∧
    Constants.standard.tables = {
      luma := 8, nccRed := 18, nccGreen := 9, nccBlue := 0, index := 24, indexBits := 7, indexUp := 1,
      colour := 0, colourBits := 24, alpha := 18, red := 12, green := 6, blue := 0, channelBits := 6, entryY := 4, entryI := 2, entryQ := 0 } ∧
    Constants.standard.expand.solid = 0xFF ∧
    ∀ v, v < 64 → x6to8 Constants.standard.expand v = v * 4 + v / 16

/-- The lazy NCC rebuild gives each of the 256 entries its clamped sum and clears dirty (R189). It rests in
part on choices of the model: notes/assumptions/40.md. -/
def Obligations.NccRebuildGivesEveryEntry : Prop :=
  (∀ (c : Constants) (n : Ncc),
      (n.dirty = false → freshNcc c n = n) ∧
      (n.dirty = true → (freshNcc c n).dirty = false ∧ (freshNcc c n).program = n.program ∧
        ∀ k, k < 256 →
          let y : Int := (n.y.read (k / 2 ^ c.tables.entryY % 16)).toNat
          let i := k / 2 ^ c.tables.entryI % 4
          let q := k / 2 ^ c.tables.entryQ % 4
          (freshNcc c n).texel.read k = packArgb c.expand.solid.toNat
            (clampInt (y + (n.ir.read i).toInt + (n.qr.read q).toInt) 0 255).toNat
            (clampInt (y + (n.ig.read i).toInt + (n.qg.read q).toInt) 0 255).toNat
            (clampInt (y + (n.ib.read i).toInt + (n.qb.read q).toInt) 0 255).toNat)) ∧
    Constants.standard.tables.entryY = 4 ∧ Constants.standard.tables.entryI = 2 ∧
    Constants.standard.tables.entryQ = 0 ∧ Constants.standard.expand.solid = 0xFF

/-- A write of textureMode, tLOD, tDetail or a texBaseAddr register stores it and marks the selected units
dirty (R161, R180). -/
def Obligations.TextureParameterWritesMarkTheUnitDirty : Prop :=
  ∀ p ∈ ([(0xC0, .textureMode), (0xC1, .tLOD), (0xC2, .tDetail), (0xC3, .texBaseAddr),
      (0xC4, .texBaseAddr_1), (0xC5, .texBaseAddr_2), (0xC6, .texBaseAddr_3_8)] :
      List (Nat × (BitVec 4 → Word → Instr))),
    ∀ (k : BitVec 4) (v : Word) (s : State), Accepts s p.1 →
    ∃ t, exec (p.2 k v) s = .next t ∧ Stores p.1 k v s t ∧
      t = { s with
        regs := t.regs, result := none,
        tmu0 := if selected s.config k 1 = true then { s.tmu0 with regdirty := true } else s.tmu0,
        tmu1 := if selected s.config k 2 = true then { s.tmu1 with regdirty := true } else s.tmu1 }

/-- Every step keeps the derived tables of each unit fresh or marked dirty (R94, R180, R433). -/
def Obligations.LazyTablesNeverGoStale : Prop :=
  ∀ s t : State, s.tablesFresh → step s = .next t → t.tablesFresh

/-- recompute(u) derives the LOD limits and bias, the masks, the level offsets, the lookup and the detail
parameters from the four registers of the unit (R181, R182, R183, R184, R185, R187, R188). It rests in part
on choices of the model: notes/assumptions/42.md, notes/assumptions/40.md. -/
def Obligations.RecomputeDerivesTheTables : Prop :=
  (∀ (u : Nat) (s : State), u < 2 →
      let mode := s.reg (u + 1) 0xC0
      let tlod := s.reg (u + 1) 0xC1
      let detail := s.reg (u + 1) 0xC2
      let base := s.reg (u + 1) 0xC3
      let k := s.config.constants
      let o := s.tmu u
      let t := (recomputeUnit u s).tmu u
      let f := k.fields
      let biased := fun (b : BiasSteps) (n : Nat) => BitVec.ofInt 32 (sext b.width (n * 2 ^ b.align) * 2 ^ b.shift)
      let aspect : Byte := BitVec.ofNat 8 (k.lodZeroMask.toNat / 2 ^ readField f.tLod.aspect tlod)
      let ncc : Lookup := if bit mode 5 = true then .ncc1 else .ncc0
      recomputeUnit u s = s.setTmu u t ∧
      t = { o with
        lodmin := t.lodmin, lodmax := t.lodmax, lodbias := t.lodbias, lodmask := t.lodmask, wmask := t.wmask,
        hmask := t.hmask, lodoffset := t.lodoffset, detailmax := t.detailmax, detailbias := t.detailbias,
        detailscale := t.detailscale, texel := t.texel, lookup := t.lookup, regdirty := false } ∧
      t.lodmin = BitVec.ofNat 32 (readField f.tLod.lodmin tlod * 2 ^ k.lodShift) ∧
      t.lodmax = BitVec.ofNat 32 (readField f.tLod.lodmax tlod * 2 ^ k.lodShift) ∧
      t.lodbias = biased k.lodBias (readField f.tLod.lodbias tlod) ∧
      t.lodmask = (if bit tlod 19 = false then 0x1FF else if bit tlod 18 = false then 0x155 else 0x0AA) ∧
      t.wmask = (if bit tlod 20 = true then k.lodZeroMask else aspect) ∧
      t.hmask = (if bit tlod 20 = true then aspect else k.lodZeroMask) ∧
      (∀ lod, lod < 9 → t.lodoffset.read lod = BitVec.ofNat 32
        (levelBase s.config (readField f.texMode.format mode / 8) ((base.toNat &&& k.texBaseMask) * 2 ^ k.texBaseShift)
          t.lodmask t.wmask t.hmask lod &&& o.mask.toNat)) ∧
      t.texel = [.rgb332, ncc, .alpha8, .int8, .ai44, .palette,
        (if s.config.variant = .v2 then .palettea else .none), .none,
        .rgb332, ncc, .rgb565, .argb1555, .argb4444, .int8, .palette, .none] ∧
      t.lookup = t.texel.getD (readField f.texMode.format mode) .none ∧
      t.detailmax = BitVec.ofNat 32 (readField f.tDetail.max detail) ∧
      t.detailbias = biased k.detailBias (readField f.tDetail.bias detail) ∧
      t.detailscale = BitVec.ofNat 32 (readField f.tDetail.scale detail)) ∧
    (∀ (c : Config) (bppShift base : Nat) (lodmask : BitVec 9) (wmask hmask : Byte) (lod : Nat),
      levelBase c bppShift base lodmask wmask hmask lod =
        base + (((List.range lod).filter fun l => bit lodmask l).map fun l =>
          (let size := (wmask.toNat / 2 ^ l + 1) * (hmask.toNat / 2 ^ l + 1)
           if c.constants.lodMinFrom ≤ l ∧ size < c.lodMinSize then c.lodMinSize else size) * 2 ^ bppShift).sum) ∧
    (∀ (v : Word) (lo : Nat),
      sext 8 (field v lo 6 * 2 ^ 2) = ((field v lo 5 : Int) - 32 * field v (lo + 5) 1) * 4) ∧
    (∀ v : Word,
      let f := Constants.standard.fields
      readField f.tLod.lodmin v = field v 0 6 ∧ readField f.tLod.lodmax v = field v 6 6 ∧
      readField f.tLod.lodbias v = field v 12 6 ∧ readField f.tLod.aspect v = field v 21 2 ∧
      readField f.tDetail.max v = field v 0 8 ∧ readField f.tDetail.bias v = field v 8 6 ∧
      readField f.tDetail.scale v = field v 14 3 ∧ readField f.texMode.format v = field v 8 4) ∧
    Constants.standard.lodShift = 6 ∧ Constants.standard.lodBias = { align := 2, width := 8, shift := 4 } ∧
    Constants.standard.texBaseMask = 0x0FFFFF ∧ Constants.standard.texBaseShift = 3 ∧
    Constants.standard.detailBias = { align := 2, width := 8, shift := 6 } ∧ Constants.standard.lodZeroMask = 0xFF ∧
    Constants.standard.lodMinFrom = 3

/-- An accepted write of fbiInit1 to fbiInit7 stores the word and recomputes the layout (R134, R162). -/
def Obligations.InitWritesRecomputeTheLayout : Prop :=
  ∀ p ∈ ([(0x80, .fbiInit4), (0x85, .fbiInit1), (0x86, .fbiInit2), (0x87, .fbiInit3), (0x91, .fbiInit5),
      (0x92, .fbiInit6), (0x93, .fbiInit7)] :
      List (Nat × (BitVec 4 → Word → Instr))),
    ∀ (k : BitVec 4) (v : Word) (s : State), Accepts s p.1 →
    ∃ t, exec (p.2 k v) s = .next t ∧ Stores p.1 k v s t ∧
      t = { s with regs := t.regs, result := none, fbi := layoutOf t s.fbi }

/-- An accepted write of fbiInit0 recomputes the layout and, with graphics_reset, clears the counters (R134,
R162). It rests in part on choices of the model: notes/assumptions/21.md. -/
def Obligations.InitZeroWriteRecomputesAndResetsCounters : Prop :=
  ∀ (k : BitVec 4) (v : Word) (s : State), Accepts s 0x84 →
    ∃ t, exec (.fbiInit0 k v) s = .next t ∧
      (∀ bank i, bank < 4 → i < 256 →
        t.reg bank i =
          if bank = 0 ∧ Reg.fbiPixelsIn ≤ i ∧ i ≤ Reg.fbiPixelsOut ∧ selected s.config k 0 = true ∧ bit v 1 = true then 0
          else if bank = 0 ∧ i = Reg.fbiTrianglesOut ∧ s.isV2 = true ∧ selected s.config k 0 = true ∧ bit v 1 = true then 0
          else if i = 0x84 ∧ selected s.config k bank = true then v
          else s.reg bank i) ∧
      t = { s with
        regs := t.regs, result := none, fbi := layoutOf t s.fbi,
        stats := if selected s.config k 0 = true ∧ bit v 1 = true then Stats.zero else s.stats }

/-- The layout: where the buffers stand, the row pitch, and that recomputing it changes nothing (R380, R381,
R383). It rests in part on choices of the model: notes/assumptions/40.md. -/
def Obligations.LayoutFollowsTheInitRegisters : Prop :=
  (∀ (s : State) (f : Fbi),
      let k := s.config.constants
      let n := k.buffers
      let f' := k.fields
      let tiles := readField f'.fbiInit1.xVideoTiles (s.reg 0 Reg.fbiInit1)
      let pages := readField f'.fbiInit2.videoBufferOffset (s.reg 0 Reg.fbiInit2) * s.config.pageBytes
      let triple := readField f'.fbiInit2.enableTripleBuf (s.reg 0 Reg.fbiInit2)
      let cfg := if s.isV2 = true ∧ triple = 0 then readField f'.fbiInit5.bufferAllocation (s.reg 0 Reg.fbiInit5)
        else triple
      let at' := fun o : Nat => BitVec.ofNat 32 (min o f.mask.toNat)
      let g := layoutOf s f
      g.rgb0 = some 0 ∧ g.rgb1 = some (at' (n.second * pages)) ∧
      g.rgb2 = (if cfg = 1 ∨ cfg = 2 then some (at' (n.third * pages)) else none) ∧
      g.auxoffs = (if cfg = 1 then none else if cfg = 2 then some (at' (n.auxThree * pages))
        else some (at' (n.auxTwo * pages))) ∧
      g.rowpixels = BitVec.ofNat 32 (s.config.tileW * tileCount s) ∧
      (s.isV2 = false → tileCount s = tiles) ∧
      (s.isV2 = true → tileCount s = ((tiles <<< k.tiles.count) |||
        (readField f'.fbiInit1.xVideoTilesBit5 (s.reg 0 Reg.fbiInit1) <<< k.tiles.bit5) |||
        (readField f'.fbiInit6.xVideoTilesBit0 (s.reg 0 Reg.fbiInit6) <<< k.tiles.bit0))) ∧
      g.yorigin = BitVec.ofNat 10 (readField f'.fbiInit3.yoriginSubtract (s.reg 0 Reg.fbiInit3)) ∧
      g.ram = f.ram ∧ layoutOf s g = g) ∧
    (∀ (s s' : State) (f : Fbi), s.config = s'.config →
      (∀ i ∈ [0x80, 0x84, 0x85, 0x86, 0x87, 0x91, 0x92], s.reg 0 i = s'.reg 0 i) →
      layoutOf s f = layoutOf s' f) ∧
    (∀ v : Word,
      let f := Constants.standard.fields
      readField f.fbiInit1.xVideoTiles v = field v 4 4 ∧ readField f.fbiInit1.xVideoTilesBit5 v = field v 24 1 ∧
      readField f.fbiInit2.videoBufferOffset v = field v 11 9 ∧ readField f.fbiInit2.enableTripleBuf v = field v 4 1 ∧
      readField f.fbiInit3.yoriginSubtract v = field v 22 10 ∧ readField f.fbiInit5.bufferAllocation v = field v 9 2 ∧
      readField f.fbiInit6.xVideoTilesBit0 v = field v 30 1) ∧
    Constants.standard.buffers = { second := 1, third := 2, auxTwo := 2, auxThree := 3 } ∧
    Constants.standard.tiles = { count := 1, bit5 := 5, bit0 := 0 }

/-- A write of dacData pushes a byte into a DAC register or latches one for reading (R159). It rests in part
on choices of the model: notes/assumptions/7.md, notes/assumptions/40.md. -/
def Obligations.DacDataPushesOrLatches : Prop :=
  (∀ (k : BitVec 4) (v : Word) (s : State), Accepts s 0x8B → s.dac.reg.wf = true →
      let f := s.config.constants.fields.dacData
      let r' := readField f.index v % 8
      ∃ t, exec (.dacData k v) s = .next t ∧ Stores 0x8B k v s t ∧
        t = { s with regs := t.regs, result := none, dac := t.dac } ∧
        (selected s.config k 0 = false → t.dac = s.dac) ∧
        (selected s.config k 0 = true → bit v 11 = false → t.dac.readResult = s.dac.readResult ∧
          ∀ r, t.dac.reg.read r = if r = r' then BitVec.ofNat 8 (readField f.data v) else s.dac.reg.read r) ∧
        (selected s.config k 0 = true → bit v 11 = true → t.dac.reg = s.dac.reg ∧
          t.dac.readResult =
            if r' = s.config.constants.dacIdRegister then s.config.dacRead5.getD Config.freeDacRead5
            else s.dac.reg.read r')) ∧
    (∀ v : Word, readField Constants.standard.fields.dacData.index v = field v 8 3 ∧
      readField Constants.standard.fields.dacData.data v = field v 0 8) ∧
    Constants.standard.dacIdRegister = 5

/-- nopCMD clears the statistics on bit 0 and, under V2, fbiTrianglesOut on bit 1 (R151). -/
def Obligations.NopCommandClearsTheCountersItNames : Prop :=
  ∀ (k : BitVec 4) (v : Word) (s : State), Accepts s 0x48 →
    ∃ t, exec (.nopCMD k v) s = .next t ∧
      (∀ bank i, bank < 4 → i < 256 →
        t.reg bank i =
          if bank = 0 ∧ Reg.fbiPixelsIn ≤ i ∧ i ≤ Reg.fbiPixelsOut ∧ selected s.config k 0 = true ∧ bit v 0 = true then 0
          else if bank = 0 ∧ i = Reg.fbiTrianglesOut ∧ s.isV2 = true ∧ selected s.config k 0 = true ∧ bit v 1 = true then 0
          else if i = 0x48 ∧ selected s.config k bank = true then v
          else s.reg bank i) ∧
      t = { s with
        regs := t.regs, result := none,
        stats := if selected s.config k 0 = true ∧ bit v 0 = true then Stats.zero else s.stats }

/-- fastfillCMD fills the clip rectangle, counts its pixels and touches nothing outside it (R28, R152,
R384). It rests in part on choices of the model: notes/assumptions/41.md, notes/assumptions/29.md,
notes/assumptions/40.md. -/
def Obligations.FastfillPaintsTheClipRectangle : Prop :=
  (∀ (k : BitVec 4) (v : Word) (s : State), Accepts s 0x49 → selected s.config k 0 = true →
      s.fbi.ram.wf = true →
      let fbz := s.reg 0 Reg.fbzMode
      let cx := s.reg 0 Reg.clipLeftRight
      let cy := s.reg 0 Reg.clipLowYHighY
      let c := s.reg 0 Reg.color1
      let f := s.config.constants.fields
      let left := readField f.clipX.left cx
      let right := readField f.clipX.right cx
      let low := readField f.clipY.lowY cy
      let high := readField f.clipY.highY cy
      let inside := fun x y : Nat => left ≤ x ∧ x < right ∧ low ≤ y ∧ y < high
      ∃ t, exec (.fastfillCMD k v) s = .next t ∧
        (∀ bank i, bank < 4 → i < 256 → ¬ pipelineRegister bank i →
          t.reg bank i = if i = 0x49 ∧ selected s.config k bank = true then v else s.reg bank i) ∧
        t.reg 0 Reg.stipple = s.reg 0 Reg.stipple ∧
        t = { s with
          regs := t.regs, stats := t.stats, result := none, fbi := { s.fbi with ram := t.fbi.ram } } ∧
        (∀ a, (∀ x y, inside x y → ¬ pixelByte s.fbi (drawBase s) x (screenY s y) a) →
          t.fbi.ram.read a = s.fbi.ram.read a) ∧
        (FbzMode.rgbBufferMask fbz = true → (FbzMode.auxBufferMask fbz = true → wordsApart s (drawBase s) inside) →
          right ≤ s.fbi.rowpixels.toNat → rowsApart s inside →
          ∀ (b : Word) (x y : Nat), drawBase s = some b → inside x y → pixelFits s b x y →
          pixelWord s t b x y =
            dither565 s.config.constants fbz (field c 16 8) (field c 8 8) (field c 0 8) x y) ∧
        (FbzMode.auxBufferMask fbz = true → (FbzMode.rgbBufferMask fbz = true → wordsApart s (drawBase s) inside) →
          right ≤ s.fbi.rowpixels.toNat → rowsApart s inside →
          ∀ (b : Word) (x y : Nat), s.fbi.auxoffs = some b → inside x y → pixelFits s b x y →
          pixelWord s t b x y =
            if s.config.constants.fillAlphaPlane = true ∧ FbzMode.enableAlphaPlanes fbz = true then
              BitVec.ofNat 16 (readField f.zaColor.alpha (s.reg 0 Reg.zaColor))
            else BitVec.ofNat 16 (readField f.zaColor.depth (s.reg 0 Reg.zaColor))) ∧
        t.pixelsOutTotal = s.pixelsOutTotal +
          (if FbzMode.rgbBufferMask fbz = true ∧ FbzMode.drawBuffer s.config.constants fbz < 2 then
            BitVec.ofNat 32 ((right - left) * (high - low)) else 0) ∧
        t.pixelsInTotal = s.pixelsInTotal ∧ t.chromaFailTotal = s.chromaFailTotal ∧
        t.zfuncFailTotal = s.zfuncFailTotal ∧ t.afuncFailTotal = s.afuncFailTotal ∧
        t.stats.stippleCount = s.stats.stippleCount ∧
        (FbzMode.rgbBufferMask fbz = true ∨ FbzMode.auxBufferMask fbz = true → t.stats.pixelsOut = 0)) ∧
    (∀ (k : BitVec 4) (v : Word) (s : State), Accepts s 0x49 → selected s.config k 0 = false →
      ∃ t, exec (.fastfillCMD k v) s = .next t ∧ Stores 0x49 k v s t ∧
        t = { s with regs := t.regs, result := none }) ∧
    (∀ v : Word,
      let f := Constants.standard.fields
      readField f.clipX.left v = field v 16 10 ∧ readField f.clipX.right v = field v 0 10 ∧
      readField f.clipY.lowY v = field v 16 10 ∧ readField f.clipY.highY v = field v 0 10 ∧
      readField f.zaColor.depth v = field v 0 16 ∧ readField f.zaColor.alpha v = field v 24 8 ∧
      readField f.fbzMode.drawBuffer v = field v 14 2) ∧
    Constants.standard.screenYBits = 10 ∧ Constants.standard.fillAlphaPlane = false

/-- swapbufferCMD records the interval, exchanges or rotates the buffers unless told not to, and clears the
count (R153, R386, R387). It rests in part on choices of the model: notes/assumptions/40.md. -/
def Obligations.SwapRotatesTheBuffersAndRecordsIt : Prop :=
  (∀ (k : BitVec 4) (v : Word) (s : State), Accepts s 0x4A → s.fbi.indicesOk = true →
    let n := s.config.constants.historyBits
    let noswap := s.isV2 = true ∧ ∃ i, s.config.swapNoswapBit = some i ∧ bit v i.val = true
    ∃ t, exec (.swapbufferCMD k v) s = .next t ∧
      (∀ bank i, bank < 4 → i < 256 →
        t.reg bank i =
          if bank = 0 ∧ i = Reg.fbiSwapHistory ∧ selected s.config k 0 = true then
            s.reg 0 Reg.fbiSwapHistory <<< n ||| BitVec.ofNat 32 (min s.fbi.swapCount.toNat (2 ^ n - 1))
          else if i = 0x4A ∧ selected s.config k bank = true then v
          else s.reg bank i) ∧
      t = { s with
        regs := t.regs, result := none,
        fbi := { s.fbi with
          frontbuf := t.fbi.frontbuf, backbuf := t.fbi.backbuf, swapCount := t.fbi.swapCount } } ∧
      (selected s.config k 0 = false → t.fbi = s.fbi) ∧
      (selected s.config k 0 = true → t.fbi.swapCount = 0 ∧
        (noswap → t.fbi.frontbuf = s.fbi.frontbuf ∧ t.fbi.backbuf = s.fbi.backbuf) ∧
        (¬ noswap → s.fbi.rgb2 = none →
          t.fbi.frontbuf.val = 1 - s.fbi.frontbuf.val ∧ t.fbi.backbuf.val = 1 - t.fbi.frontbuf.val) ∧
        (¬ noswap → s.fbi.rgb2 ≠ none →
          t.fbi.frontbuf.val = (s.fbi.frontbuf.val + 1) % 3 ∧ t.fbi.backbuf.val = (t.fbi.frontbuf.val + 1) % 3))) ∧
    Constants.standard.historyBits = 4

/-- Two swaps restore two buffers, three restore three, and after any swap front and back differ (R386,
R388). -/
def Obligations.SwapsRestoreAndSeparateTheBuffers : Prop :=
  (∀ (v : Word) (s : State), s.fbi.rgb2 = none → s.fbi.indicesOk = true → s.fbi.frontbuf ≠ s.fbi.backbuf →
      noSwap v s = false →
      (swapBuffers v (swapBuffers v s)).fbi.frontbuf = s.fbi.frontbuf ∧
      (swapBuffers v (swapBuffers v s)).fbi.backbuf = s.fbi.backbuf) ∧
    (∀ (v : Word) (s : State), s.fbi.rgb2 ≠ none → s.fbi.backbuf = s.fbi.frontbuf + 1 → noSwap v s = false →
      (swapBuffers v (swapBuffers v (swapBuffers v s))).fbi.frontbuf = s.fbi.frontbuf ∧
      (swapBuffers v (swapBuffers v (swapBuffers v s))).fbi.backbuf = s.fbi.backbuf) ∧
    ∀ (v : Word) (s : State), (swapBuffers v s).fbi.ram = s.fbi.ram ∧
      (noSwap v s = false → (swapBuffers v s).fbi.frontbuf ≠ (swapBuffers v s).fbi.backbuf)

/-- triangleCMD and ftriangleCMD complete, count the triangle, touch only the bytes of covered pixels, and
draw each pixel of a plain untextured triangle (R149, R150, R230, R233, R234, R236, R290, R305, R352). It
rests in part on choices of the model: notes/assumptions/10.md, notes/assumptions/20.md,
notes/assumptions/40.md, notes/assumptions/28.md. -/
def Obligations.TriangleCommandsDrawTheirPixels : Prop :=
  (∀ p ∈ ([(0x20, .triangleCMD), (0x40, .ftriangleCMD)] : List (Nat × (BitVec 4 → Word → Instr))),
      ∀ (k : BitVec 4) (v : Word) (s : State), Accepts s p.1 → selected s.config k 0 = true →
      FbzMode.drawBuffer s.config.constants (s.reg 0 Reg.fbzMode) < 2 → s.cacheRoom →
      let n := snapshot (activeUnits s) (adjusted s)
      (∀ u, u < activeUnits s → s.unitSamples n u) →
      ∃ t, exec (p.2 k v) s = .next t ∧ TriangleDrawn p.1 k v s t ∧
        (PlainPipeline s → activeUnits s = 0 → s.fbi.ram.wf = true → PlainTriangle n s t)) ∧
    (∀ (s : State) (n : Snapshot) (u : Nat), u < 2 → s.config.constants = Constants.standard →
      s.unitFresh u → s.registersSample u → s.unitSamples n u) ∧
    Constants.standard.vertexFrac = 4 ∧ Constants.standard.lodOff = 0x800

/-- A triangle command with a reserved draw buffer, or that does not select the FBI, draws and counts
nothing (R149, R150, R230, R238). -/
def Obligations.TriangleCommandsThatDrawNothing : Prop :=
  ∀ p ∈ ([(0x20, .triangleCMD), (0x40, .ftriangleCMD)] : List (Nat × (BitVec 4 → Word → Instr))),
    ∀ (k : BitVec 4) (v : Word) (s : State), Accepts s p.1 →
    (selected s.config k 0 = false →
      ∃ t, exec (p.2 k v) s = .next t ∧ Stores p.1 k v s t ∧ t = { s with regs := t.regs, result := none }) ∧
    (selected s.config k 0 = true → 2 ≤ FbzMode.drawBuffer s.config.constants (s.reg 0 Reg.fbzMode) →
      ∃ t, exec (p.2 k v) s = .next t ∧ Stores p.1 k v s t ∧
        t = { s with
          regs := t.regs, result := none, fbi := (adjusted s).fbi, tmu0 := (adjusted s).tmu0,
          tmu1 := (adjusted s).tmu1 })

/-- A triangle whose three vertices lie on one line writes no pixel and is still counted (R233, R235, R236).
-/
def Obligations.ColinearTriangleDrawsNothing : Prop :=
  ∀ p ∈ ([(0x20, .triangleCMD), (0x40, .ftriangleCMD)] : List (Nat × (BitVec 4 → Word → Instr))),
    ∀ (k : BitVec 4) (v : Word) (s : State), Accepts s p.1 → selected s.config k 0 = true →
    FbzMode.drawBuffer s.config.constants (s.reg 0 Reg.fbzMode) < 2 → s.cacheRoom →
    colinear s.fbi.va.point s.fbi.vb.point s.fbi.vc.point →
    ∃ t, exec (p.2 k v) s = .next t ∧ t.fbi.ram = s.fbi.ram ∧ t.reg 0 Reg.stipple = s.reg 0 Reg.stipple ∧
      t.pixelsInTotal = s.pixelsInTotal ∧ t.pixelsOutTotal = s.pixelsOutTotal ∧
      t.chromaFailTotal = s.chromaFailTotal ∧ t.zfuncFailTotal = s.zfuncFailTotal ∧
      t.afuncFailTotal = s.afuncFailTotal ∧ t.stats.stippleCount = s.stats.stippleCount ∧
      t.reg 0 Reg.fbiTrianglesOut = s.reg 0 Reg.fbiTrianglesOut + 1

/-- Every pixel a triangle or pipelined LFB write counts in is counted out or in one reject counter (R291,
R341, R351). -/
def Obligations.CounterIdentityOfDrawing : Prop :=
  ∀ (i : Instr) (s t : State), s.regs.wf = true →
    ((∃ k v, i ∈ [Instr.triangleCMD k v, .ftriangleCMD k v, .sDrawTriCMD k v]) ∨
      (LfbMode.enablePipeline (s.reg 0 Reg.lfbMode) = true ∧ ∃ offset v m, i = .lfbWr offset v m)) →
    exec i s = .next t → t.unaccounted = s.unaccounted

/-- A triangle that misses in a full raster cache enters the fatal state with no pixel drawn (R135, R274,
R402). -/
def Obligations.FullCacheStopsTheChipBeforeDrawing : Prop :=
  ∀ p ∈ ([(0x20, .triangleCMD), (0x40, .ftriangleCMD)] : List (Nat × (BitVec 4 → Word → Instr))),
    ∀ (k : BitVec 4) (v : Word) (s : State), Accepts s p.1 → selected s.config k 0 = true →
    FbzMode.drawBuffer s.config.constants (s.reg 0 Reg.fbzMode) < 2 → ¬ s.cacheRoom →
    ∃ t, exec (p.2 k v) s = .next t ∧ t.fatal = some .cacheOverflow ∧ t.fbi.ram = s.fbi.ram ∧
      t.reg 0 Reg.fbiTrianglesOut = s.reg 0 Reg.fbiTrianglesOut ∧
      ∀ i : Instr, (∀ c q, i ≠ .reset c q) → exec i t = .fault (.fatal .cacheOverflow)

/-- A resolve finds its key afterwards, appends at most one entry and never forgets a key (R272, R274,
R278). It rests in part on choices of the model: notes/assumptions/40.md. -/
def Obligations.CacheIsAppendOnly : Prop :=
  (∀ (n : Nat) (s t : State), s.cache.buckets.length = 97 → resolve n s = some t →
      let k := makeKey n s
      t = { s with cache := t.cache } ∧ t.cache.buckets.length = 97 ∧
      (t.cache.lookup (hashKey k) k).isSome = true ∧
      (∀ k' : Key, (s.cache.lookup (hashKey k') k').isSome = true →
        (t.cache.lookup (hashKey k') k').isSome = true) ∧
      t.cache.entries.map CacheEntry.key = s.cache.entries.map CacheEntry.key ++
        (if (s.cache.lookup (hashKey k) k).isSome = true then [] else [k])) ∧
    ∀ (n : Nat) (s : State), n ≤ 2 → s.config.constants.keys = Constants.standard.keys →
      ((makeKey n s).tex0 = 0xFFFFFFFF ↔ n = 0) ∧ ((makeKey n s).tex1 = 0xFFFFFFFF ↔ n < 2)

/-- What a triangle draws does not depend on what the raster cache holds (R275, R276). -/
def Obligations.CacheNeverChangesTheOutput : Prop :=
  ∀ p ∈ ([(0x20, .triangleCMD), (0x40, .ftriangleCMD), (0xA8, .sDrawTriCMD)] : List (Nat × (BitVec 4 → Word → Instr))),
    ∀ (k : BitVec 4) (v : Word) (s : State) (c : Cache), s.cacheRoom → State.cacheRoom { s with cache := c } →
    (∀ t, exec (p.2 k v) s = .next t → ∃ c', exec (p.2 k v) { s with cache := c } = .next { t with cache := c' }) ∧
    ∀ r, exec (p.2 k v) s = .refused r → exec (p.2 k v) { s with cache := c } = .refused r

/-- sBeginTriCMD captures the setup-vertex registers into all three ring places (R155, R240). -/
def Obligations.BeginFillsTheVertexRing : Prop :=
  ∀ (k : BitVec 4) (v : Word) (s : State), Accepts s 0xA9 →
    let c : SetupVertex := {
      x := s.reg 0 0x99, y := s.reg 0 0x9A, a := s.reg 0 0x9F, r := s.reg 0 0x9C, g := s.reg 0 0x9D,
      b := s.reg 0 0x9E, z := s.reg 0 0xA0, wb := s.reg 0 0xA1, w0 := s.reg 0 0xA2, s0 := s.reg 0 0xA3,
      t0 := s.reg 0 0xA4, w1 := s.reg 0 0xA5, s1 := s.reg 0 0xA6, t1 := s.reg 0 0xA7 }
    ∃ t, exec (.sBeginTriCMD k v) s = .next t ∧ Stores 0xA9 k v s t ∧
      t = { s with
        regs := t.regs, result := none,
        fbi := if selected s.config k 0 = true then
          { s.fbi with svert0 := c, svert1 := c, svert2 := c, sverts := 1 } else s.fbi }

/-- sDrawTriCMD appends its vertex; before the third vertex, or culled, it leaves the gradients and draws
nothing (R156, R241, R242, R246). It rests in part on choices of the model: notes/assumptions/40.md. -/
def Obligations.DrawCommandAppendsAndCulls : Prop :=
  (∀ (k : BitVec 4) (v : Word) (s : State), Accepts s 0xA8 →
      (selected s.config k 0 = false →
        ∃ t, exec (.sDrawTriCMD k v) s = .next t ∧ Stores 0xA8 k v s t ∧
          t = { s with regs := t.regs, result := none }) ∧
      (selected s.config k 0 = true → (s.fbi.sverts + 1).toNat < 3 →
        ∃ t, exec (.sDrawTriCMD k v) s = .next t ∧ Stores 0xA8 k v s t ∧
          t = { s with regs := t.regs, result := none, fbi := Fbi.appended s }) ∧
      (selected s.config k 0 = true → 3 ≤ (s.fbi.sverts + 1).toNat → s.setupRejected →
        ∃ t, exec (.sDrawTriCMD k v) s = .next t ∧ Stores 0xA8 k v s t ∧
          t = { s with
            regs := t.regs, result := none, fbi := setupVertices s.config.constants.vertexFrac (Fbi.appended s) })) ∧
    Constants.standard.cullOnMatch = false ∧ Constants.standard.cullParity = 3

/-- sDrawTriCMD with three vertices and no rejection submits the triangle that the setup step gives, and
completes as a triangle command does (R156, R230, R241, R242, R243). It rests in part on choices of the
model: notes/assumptions/40.md, notes/assumptions/10.md, notes/assumptions/20.md, notes/assumptions/28.md.
-/
def Obligations.SetupDrawIsTheClassicDraw : Prop :=
  (∀ (k : BitVec 4) (v : Word) (s : State), Accepts s 0xA8 → selected s.config k 0 = true →
      3 ≤ (s.fbi.sverts + 1).toNat → ¬ s.setupRejected →
      let d := s.setupDone
      (∃ u : State, u = { d with regs := u.regs } ∧
        (∀ bank i, bank < 4 → i < 256 →
          u.reg bank i = if i = 0xA8 ∧ selected s.config k bank = true then v else s.reg bank i) ∧
        exec (.sDrawTriCMD k v) s = submitTriangle u) ∧
      (2 ≤ FbzMode.drawBuffer s.config.constants (s.reg 0 Reg.fbzMode) →
        ∃ t, exec (.sDrawTriCMD k v) s = .next t ∧ Stores 0xA8 k v s t ∧
          t = { adjusted d with regs := t.regs, result := none }) ∧
      (FbzMode.drawBuffer s.config.constants (s.reg 0 Reg.fbzMode) < 2 → d.cacheRoom →
        let n := snapshot (activeUnits d) (adjusted d)
        (∀ u, u < activeUnits d → d.unitSamples n u) →
        ∃ t, exec (.sDrawTriCMD k v) s = .next t ∧ TriangleDrawn 0xA8 k v d t ∧
          (PlainPipeline d → activeUnits d = 0 → d.fbi.ram.wf = true → PlainTriangle n d t))) ∧
    Constants.standard.cullOnMatch = false

/-- sARGB sets the four setup colour registers to the binary32 of its four lanes (R147). -/
def Obligations.PackedColourFillsTheSetupColours : Prop :=
  (∀ (k : BitVec 4) (v : Word) (s : State), Accepts s 0x9B →
      ∃ t, exec (.sARGB k v) s = .next t ∧ t = { s with regs := t.regs, result := none } ∧
        ∀ bank i, bank < 4 → i < 256 →
          t.reg bank i =
            if bank = 0 ∧ selected s.config k 0 = true ∧ i = 0x9F then floatOfNat (field v 24 8)
            else if bank = 0 ∧ selected s.config k 0 = true ∧ i = 0x9C then floatOfNat (field v 16 8)
            else if bank = 0 ∧ selected s.config k 0 = true ∧ i = 0x9D then floatOfNat (field v 8 8)
            else if bank = 0 ∧ selected s.config k 0 = true ∧ i = 0x9E then floatOfNat (field v 0 8)
            else if i = 0x9B ∧ selected s.config k bank = true then v
            else s.reg bank i) ∧
    ∀ n : Nat, n < 256 → floatToInt 32 (floatOfBits (floatOfNat n)) = BitVec.ofNat 32 n

/-- cvt_N truncates a finite binary32 toward zero, saturates at the width, and gives 0 for NaN (R244). -/
def Obligations.ConversionTruncatesAndSaturates : Prop :=
  ∀ n ∈ [16, 32, 64], ∀ (neg : Bool) (m : Nat) (e : Int),
    let magnitude : Int := if 0 ≤ e then ((m * 2 ^ e.toNat : Nat) : Int) else ((m / 2 ^ (-e).toNat : Nat) : Int)
    (floatToInt n (.fin neg m e)).toInt =
      max (-2 ^ (n - 1)) (min (if neg = true then -magnitude else magnitude) (2 ^ (n - 1) - 1)) ∧
    (floatToInt n (.inf neg)).toInt = (if neg = true then -2 ^ (n - 1) else 2 ^ (n - 1) - 1) ∧
    floatToInt n .nan = 0

/-- The computed register reads complete with the values the rules give (R62, R139, R140, R160, R409, R446).
It rests in part on choices of the model: notes/assumptions/40.md, notes/assumptions/9.md. -/
def Obligations.ComputedReadsAnswer : Prop :=
  (∀ s : State, s.fatal = none → s.config.access = none →
      (∃ (t : State) (w : Word), exec .statusRead s = .next t ∧
        t = { s with result := some w, draws := s.draws + 1 } ∧ field w 0 6 = 0x3F ∧
        bit w 6 = Config.drawRetrace s.draws ∧ field w 7 3 = 0 ∧ field w 10 2 = s.fbi.frontbuf.val ∧
        field w 12 16 = 0xFFFF ∧ field w 28 4 = 0) ∧
      exec .fbiInit2Read s = .next { s with
        result := some
          (if bit s.initEnable s.config.constants.dacReadBit.val = true then s.dac.readResult.setWidth 32
           else s.reg 0 0x86) } ∧
      exec .vRetraceRead s = .next { s with result := some (Config.drawTiming s.draws), draws := s.draws + 1 } ∧
      (s.config.variant = .v2 →
        exec .hvRetraceRead s = .next { s with result := some (Config.drawTiming s.draws), draws := s.draws + 1 } ∧
        exec .fbiSwapHistoryRead s = .next { s with result := some (s.reg 0 0x96) } ∧
        exec .fbiTrianglesOutRead s = .next { s with
          result := some (s.reg 0 0x97 &&& BitVec.ofNat 32 (2 ^ s.config.statBits - 1)) }) ∧
      (s.config.variant = .v1 → ∀ i ∈ [Instr.hvRetraceRead, .fbiSwapHistoryRead, .fbiTrianglesOutRead],
        exec i s = .next { s with result := some 0xFFFFFFFF })) ∧
    (∀ p ∈ ([(.fbiPixelsInRead, State.pixelsInTotal),
      (.fbiChromaFailRead, State.chromaFailTotal),
      (.fbiZfuncFailRead, State.zfuncFailTotal),
      (.fbiAfuncFailRead, State.afuncFailTotal),
      (.fbiPixelsOutRead, State.pixelsOutTotal)] :
      List (Instr × (State → Word))),
      ∀ s : State, s.fatal = none → s.config.access = none → s.regs.wf = true →
      ∃ t, exec p.1 s = .next t ∧
        t.result = some (p.2 s &&& BitVec.ofNat 32 (2 ^ s.config.statBits - 1)) ∧
        t = { s with regs := t.regs, stats := t.stats, result := t.result } ∧
        (∀ bank i, bank < 4 → i < 256 → ¬ (bank = 0 ∧ Reg.fbiPixelsIn ≤ i ∧ i ≤ Reg.fbiPixelsOut) →
          t.reg bank i = s.reg bank i) ∧
        t.pixelsInTotal = s.pixelsInTotal ∧ t.chromaFailTotal = s.chromaFailTotal ∧
        t.zfuncFailTotal = s.zfuncFailTotal ∧ t.afuncFailTotal = s.afuncFailTotal ∧
        t.pixelsOutTotal = s.pixelsOutTotal ∧ t.stats.stippleCount = s.stats.stippleCount) ∧
    Constants.standard.dacReadBit = 2

/-- A register read returns the slot of the right bank, or all ones where there is no read right (R102,
R139, R409). It rests in part on choices of the model: notes/assumptions/14.md. -/
def Obligations.RegisterReadReturnsTheBankOrAllOnes : Prop :=
  ∀ (offset : Word) (s : State), s.fatal = none →
    let i := effectiveIndex s offset
    let k := offset.extractLsb' 8 4
    (readable s.config i = false → exec (.regRd offset) s = .next { s with result := some 0xFFFFFFFF }) ∧
    (readable s.config i = true → i ∉ computedReads → textureOnly i = false →
      exec (.regRd offset) s = .next { s with result := some (s.reg 0 i) }) ∧
    (readable s.config i = true → textureOnly i = true → selected s.config k 1 = true →
      exec (.regRd offset) s = .next { s with result := some (s.reg 1 i) }) ∧
    (readable s.config i = true → textureOnly i = true → selected s.config k 1 = false →
      selected s.config k 2 = true → exec (.regRd offset) s = .next { s with result := some (s.reg 2 i) })

/-- LFB_WR completes with every operand and touches only the words of the pixels its offset names (R360,
R364, R366, R370, R372). It rests in part on choices of the model: notes/assumptions/40.md. -/
def Obligations.LfbWriteTouchesOnlyItsPixels : Prop :=
  (∀ (offset v : Word) (m : BitVec 4) (s : State), s.fatal = none →
      let mode := s.reg 0 Reg.lfbMode
      let base := (lfbTarget s.config.constants mode s.fbi).bind s.fbi.rgb
      ∃ t, exec (.lfbWr offset v m) s = .next t ∧ t.result = none ∧ DrawKeeps s t ∧ t.cache = s.cache ∧
        (∀ a, (∀ p ∈ lfbPositions s.config.constants mode offset, ¬ pixelByte s.fbi base p.x (lfbWriteRow s p.y) a) →
          t.fbi.ram.read a = s.fbi.ram.read a) ∧
        (LfbMode.writeFormat s.config.constants mode ∈ [3, 6, 7, 8, 9, 10, 11] ∨ 2 ≤ LfbMode.writeBuffer s.config.constants mode →
          t = { s with result := none }) ∧
        (m = 0 → t.fbi = s.fbi ∧ t.reg 0 Reg.stipple = s.reg 0 Reg.stipple ∧
          t.stats.stippleCount = s.stats.stippleCount ∧
          (s.regs.wf = true → t.pixelsInTotal = s.pixelsInTotal ∧ t.pixelsOutTotal = s.pixelsOutTotal ∧
            t.chromaFailTotal = s.chromaFailTotal ∧ t.zfuncFailTotal = s.zfuncFailTotal ∧
            t.afuncFailTotal = s.afuncFailTotal))) ∧
    Constants.standard.offsets.lfbPairX = 9 ∧ Constants.standard.offsets.lfbPairY = 10 ∧
    Constants.standard.offsets.lfbSingleX = 10 ∧ Constants.standard.offsets.lfbSingleY = 10

/-- A raw 5-6-5 pair written through the LFB is read back unchanged (R365, R367, R371, R372). It rests in
part on choices of the model: notes/assumptions/40.md. -/
def Obligations.LfbRawRoundTrip : Prop :=
  ∀ (offset v b : Word) (s : State), s.fatal = none → s.fbi.ram.wf = true →
    let mode := s.reg 0 Reg.lfbMode
    let fbz := s.reg 0 Reg.fbzMode
    LfbMode.enablePipeline mode = false → LfbMode.writeFormat s.config.constants mode = 0 → LfbMode.lanes s.config.constants mode % 2 = 0 →
    LfbMode.wordSwapWrites mode = false → LfbMode.byteSwizzleWrites mode = false →
    LfbMode.wordSwapReads mode = false → LfbMode.byteSwizzleReads mode = false →
    LfbMode.writeBuffer s.config.constants mode < 2 → LfbMode.readBuffer s.config.constants mode = LfbMode.writeBuffer s.config.constants mode →
    s.config.constants.expand = Constants.standard.expand → s.config.constants.lanes = Constants.standard.lanes →
    s.config.constants.pixel = Constants.standard.pixel → s.config.constants.parts = Constants.standard.parts →
    FbzMode.enableDithering fbz = false → (FbzMode.rgbBufferMask fbz = true ∨ s.config.lfbRawMasks = false) →
    lfbReadBase s.config.constants mode s.fbi = some b → lfbReadAddress s b offset + 3 ≤ s.fbi.mask.toNat →
    ∃ t, exec (.lfbWr offset v 0xF) s = .next t ∧ ∃ u, exec (.lfbRd offset) t = .next u ∧ u.result = some v

/-- LFB_RD returns the two stored words, swapped as lfbMode says, or all ones, and changes nothing (R87,
R371, R409). It rests in part on choices of the model: notes/assumptions/40.md. -/
def Obligations.LfbReadReturnsTwoPixelsOrAllOnes : Prop :=
  (∀ (offset : Word) (s : State), s.fatal = none →
      let mode := s.reg 0 Reg.lfbMode
      let k := s.config.constants
      (∃ w, exec (.lfbRd offset) s = .next { s with result := some w }) ∧
      (lfbReadBase s.config.constants mode s.fbi = none → exec (.lfbRd offset) s = .next { s with result := some 0xFFFFFFFF }) ∧
      (LfbMode.readBuffer s.config.constants mode = 3 → lfbReadBase s.config.constants mode s.fbi = none) ∧
      (LfbMode.readBuffer s.config.constants mode = 2 → lfbReadBase s.config.constants mode s.fbi = s.fbi.auxoffs) ∧
      ∀ b, lfbReadBase s.config.constants mode s.fbi = some b →
        let x := 2 ^ k.offsets.lfbPairSpan * field offset 0 k.offsets.lfbPairX
        let y := field offset k.offsets.lfbPairX k.offsets.lfbPairY
        let row := if bit mode 13 = true then (((s.fbi.yorigin.toNat : Int) - y) % 2 ^ k.screenYBits).toNat else y
        let a := b.toNat + 2 * (row * s.fbi.rowpixels.toNat + x)
        let m := s.fbi.ram
        let first : BitVec 16 := m.read (a + 1) ++ m.read a
        let second : BitVec 16 := m.read (a + 3) ++ m.read (a + 2)
        let d : Word := (first.setWidth 32 <<< k.parts.readFirst) ||| (second.setWidth 32 <<< k.parts.readSecond)
        let d := if bit mode 15 = true then halfSwap d else d
        let d := if bit mode 16 = true then byteReverse d else d
        exec (.lfbRd offset) s = .next { s with
          result := some (if s.fbi.mask.toNat < a + 3 then 0xFFFFFFFF else d) }) ∧
    Constants.standard.offsets.lfbPairX = 9 ∧ Constants.standard.offsets.lfbPairY = 10 ∧
    Constants.standard.offsets.lfbPairSpan = 1 ∧ Constants.standard.screenYBits = 10 ∧
    Constants.standard.parts.readFirst = 0 ∧ Constants.standard.parts.readSecond = 16

/-- TEX_WR stores the four bytes of its word at the masked texel address of its unit (R84, R192, R200,
R401). It rests in part on choices of the model: notes/assumptions/19.md, notes/assumptions/40.md. -/
def Obligations.TextureUploadStoresFourBytes : Prop :=
  (∀ (offset v : Word) (s : State), s.fatal = none →
      let u := field offset 19 2
      let lod := field offset 15 4
      let w := s.config.constants.offsets
      let parts := s.config.constants.parts
      let tlod := s.texReg u Reg.tLOD
      (s.config.ntmu.val ≤ u → exec (.texWr offset v) s = .next { s with result := some 0 }) ∧
      (u < s.config.ntmu.val → ¬ (s.isV2 = true ∧ TLod.directWrite tlod = true) → 8 < lod →
        exec (.texWr offset v) s = .next { s with result := some 0 }) ∧
      (u < s.config.ntmu.val → (s.tmu u).ok = true → ¬ (s.isV2 = true ∧ TLod.directWrite tlod = true) → lod ≤ 8 →
        let d := uploadWord tlod v
        let fresh := (freshUnit u s).tmu u
        let format := TexMode.format s.config.constants (s.texReg u Reg.textureMode)
        let row := field offset 7 8 * (fresh.wmask.toNat / 2 ^ lod + 1)
        let a := (fresh.lodoffset.read lod).toNat +
          (if format < 8 then row + 2 ^ w.texSpan8 * field offset 0 w.texColumn8
           else 2 * (row + 2 ^ w.texSpan16 * field offset 0 w.texColumn16))
        ∃ t, exec (.texWr offset v) s = .next t ∧
          t = { (freshUnit u s).setTmu u { fresh with ram := (t.tmu u).ram } with result := some 0 } ∧
          (∀ k, k < 4 → (t.tmu u).ram.read ((a + k) &&& fresh.mask.toNat) = d.extractLsb' (if format < 8 then parts.texelByte * k else parts.texelHalf * (k / 2) + 8 * (k % 2)) 8) ∧
          ∀ b, (∀ k, k < 4 → b ≠ (a + k) &&& fresh.mask.toNat) → (t.tmu u).ram.read b = (s.tmu u).ram.read b)) ∧
    Constants.standard.offsets.texColumn8 = 6 ∧ Constants.standard.offsets.texColumn16 = 7 ∧
    Constants.standard.offsets.texSpan8 = 2 ∧ Constants.standard.offsets.texSpan16 = 1 ∧
    Constants.standard.parts.texelByte = 8 ∧ Constants.standard.parts.texelHalf = 16

/-- A TEX_WR to a V2 unit with tdirect_write set is refused by name (R193). -/
def Obligations.DirectTextureWriteIsRefused : Prop :=
  ∀ (offset v : Word) (s : State), s.fatal = none → s.isV2 = true →
    field offset 19 2 < s.config.ntmu.val → bit (s.texReg (field offset 19 2) Reg.tLOD) 27 = true →
    exec (.texWr offset v) s = .refused .directWrite

/-- The packed bilinear filter equals floor interpolation in each of the four channels (R199). It rests in
part on choices of the model: notes/assumptions/40.md. -/
def Obligations.BilinearIsPerChannelFloorInterpolation : Prop :=
  ∀ (c00 c01 c10 c11 : Word) (fs ft : Nat), fs < 256 → ft < 256 → ∀ l ∈ [0, 8, 16, 24],
    let lane := fun c : Word => (field c l 8 : Int)
    let top := lane c00 + (lane c01 - lane c00) * fs / 256
    let bottom := lane c10 + (lane c11 - lane c10) * fs / 256
    lane (bilinear Constants.standard.tex.fraction c00 c01 c10 c11 fs ft) = top + (bottom - top) * ft / 256

/-- A pixel with every optional stage off writes its combined colour and its depth or alpha (R290, R352). It
rests in part on choices of the model: notes/assumptions/40.md, notes/assumptions/28.md. -/
def Obligations.PlainPixelWritesTheCombinedColour : Prop :=
  ∀ (x y : Nat) (it : PixelIter) (it0 it1 : UnitIter) (s : State), s.fbi.ram.wf = true → PlainPipeline s →
    let fbz := s.reg 0 Reg.fbzMode
    let here := fun x' y' : Nat => x' = x ∧ y' = y
    ∃ t, pixel 0 x y it it0 it1 s = .next t ∧ t.stats.pixelsIn = s.stats.pixelsIn + 1 ∧
      t.stats.pixelsOut = s.stats.pixelsOut + 1 ∧ t.regs = s.regs ∧
      (FbzMode.rgbBufferMask fbz = true → (FbzMode.auxBufferMask fbz = true → wordsApart s (drawBase s) here) →
        ∀ b, drawBase s = some b → pixelFits s b x y → pixelWord s t b x y = plainColourWord s x y it) ∧
      (FbzMode.auxBufferMask fbz = true → (FbzMode.rgbBufferMask fbz = true → wordsApart s (drawBase s) here) →
        ∀ b, s.fbi.auxoffs = some b → pixelFits s b x y → pixelWord s t b x y = plainAuxWord s it)

/-- A pixel reaches write-out and is counted out, or it writes no memory (R291, R341, R404). -/
def Obligations.PixelIsCountedOutOrWritesNothing : Prop :=
  ∀ (n x y : Nat) (it : PixelIter) (it0 it1 : UnitIter) (s t : State), pixel n x y it it0 it1 s = .next t →
    (t.stats.pixelsOut = s.stats.pixelsOut + 1 ∨
      (t.stats.pixelsOut = s.stats.pixelsOut ∧ t.fbi.ram = s.fbi.ram)) ∧
    t.unaccounted = s.unaccounted

/-- PCI_INITEN sets init_enable to its operand and changes nothing else (R107). -/
def Obligations.PciInitEnableSetsTheWord : Prop :=
  ∀ (v : Word) (s : State), s.fatal = none →
    exec (.pciIniten v) s = .next { s with initEnable := v, result := none }

/-- RESET gives every piece of state its reset value, or the fatal state for an unsupported size (R420,
R421, R422, R423, R424). It rests in part on choices of the model: notes/assumptions/40.md,
notes/assumptions/24.md, notes/assumptions/35.md, notes/assumptions/34.md, notes/assumptions/12.md,
notes/assumptions/39.md, notes/assumptions/30.md. -/
def Obligations.ResetBuildsTheResetState : Prop :=
  (∀ (c : Config) (q : ResetPolicy) (s : State),
      supportedSize c.fbmemBytes = true → supportedSize c.tmumemBytes = true →
      let k := c.constants.reset
      ∃ t, exec (.reset c q) s = .next t ∧ t.fatal = none ∧ t.result = none ∧ t.config = c ∧ t.initEnable = k.initEnable ∧
        t.pciFifoSize = 0 ∧ t.cache = Cache.empty ∧ t.stats = k.stats ∧ t.pending = s.pending ∧
        t.draws = s.draws ∧
        t.fbi.mask = BitVec.ofNat 32 (c.fbmemBytes - 1) ∧
        t.fbi.frontbuf = (if k.frontbuf = 2 ∧ t.fbi.rgb2 = none then 0 else k.frontbuf) ∧
        t.fbi.backbuf = (if k.backbuf = 2 ∧ t.fbi.rgb2 = none then 0 else k.backbuf) ∧
        t.fbi.sverts = 0 ∧ t.fbi.swapCount = 0 ∧ t.fbi.vblank = false ∧ t.fbi = layoutOf t t.fbi ∧
        (∀ u, u < 2 → (t.tmu u).mask = BitVec.ofNat 32 (c.tmumemBytes - 1) ∧ (t.tmu u).regdirty = true ∧
          recomputeUnit u t = t.setTmu u { t.tmu u with regdirty := false } ∧
          ∀ i : Fin 2, ((t.tmu u).ncc i).dirty = true ∧ ((t.tmu u).ncc i).texel = [] ∧
            ((t.tmu u).ncc i).Holds c.constants.tables fun n => t.reg (u + 1) ((if i = 0 then 0xC9 else 0xD5) + n)) ∧
        (q = .reference →
          (∀ bank i, bank < 4 → i < 256 → t.reg bank i =
            if bank = 0 ∧ i = 0x80 then 0x00000001 else if bank = 0 ∧ i = 0x84 then 0x00000410
            else if bank = 0 ∧ i = 0x85 then 0x00201102 else if bank = 0 ∧ i = 0x86 then 0x80000040
            else if bank = 0 ∧ i = 0x87 then 0x001E4000 else 0) ∧
          t.dac = { reg := [], readResult := 0 } ∧ t.fbi.ram = [] ∧ t.fbi.fogblend = [] ∧ t.fbi.fogdelta = [] ∧
          t.fbi.va = { x := 0, y := 0 } ∧ t.fbi.vb = { x := 0, y := 0 } ∧ t.fbi.vc = { x := 0, y := 0 } ∧
          t.fbi.r = Grad.zero 32 ∧ t.fbi.g = Grad.zero 32 ∧ t.fbi.b = Grad.zero 32 ∧ t.fbi.a = Grad.zero 32 ∧
          t.fbi.z = Grad.zero 32 ∧ t.fbi.w = Grad.zero 64 ∧ t.fbi.svert0 = SetupVertex.zero ∧
          t.fbi.svert1 = SetupVertex.zero ∧ t.fbi.svert2 = SetupVertex.zero ∧
          ∀ u, u < 2 → (t.tmu u).ram = [] ∧ (t.tmu u).s = Grad.zero 64 ∧ (t.tmu u).t = Grad.zero 64 ∧
            (t.tmu u).w = Grad.zero 64 ∧ (t.tmu u).palette = [] ∧ (t.tmu u).palettea = []) ∧
        ∀ a, q = .arbitrary a →
          t.regs = a.regs ∧ t.dac = { reg := a.dacReg, readResult := a.dacReadResult } ∧ t.fbi.ram = a.fbRam ∧
          t.fbi.va = a.va ∧ t.fbi.vb = a.vb ∧ t.fbi.vc = a.vc ∧ t.fbi.r = a.r ∧ t.fbi.g = a.g ∧ t.fbi.b = a.b ∧
          t.fbi.a = a.a ∧ t.fbi.z = a.z ∧ t.fbi.w = a.w ∧ t.fbi.fogblend = a.fogblend ∧
          t.fbi.fogdelta = a.fogdelta ∧ t.fbi.svert0 = a.svert0 ∧ t.fbi.svert1 = a.svert1 ∧
          t.fbi.svert2 = a.svert2 ∧
          ∀ p ∈ [(t.tmu0, a.tmu0), (t.tmu1, a.tmu1)],
            p.1.ram = p.2.ram ∧ p.1.s = p.2.s ∧ p.1.t = p.2.t ∧ p.1.w = p.2.w ∧ p.1.palette = p.2.palette ∧
            p.1.palettea = p.2.palettea) ∧
    Constants.standard.reset = { frontbuf := 0, backbuf := 1, initEnable := 0, stats := Stats.zero } ∧
    ∀ (c : Config) (q : ResetPolicy) (s : State),
      (supportedSize c.fbmemBytes = false ∨ supportedSize c.tmumemBytes = false) →
      ∃ t, exec (.reset c q) s = .next t ∧ t.fatal = some .badMemorySize ∧ t.result = none ∧ t.config = c ∧
        t.pending = s.pending ∧ t.draws = s.draws

/-- Every step keeps the state invariant (R26, R27, R85, R88, R200, R270, R380, R383). -/
def Obligations.StepKeepsTheStateInvariant : Prop :=
  ∀ s t : State, s.Inv = true → step s = .next t → t.Inv = true

/-- The reset state has the state invariant and fresh or dirty tables (R421, R422). It rests in part on
choices of the model: notes/assumptions/3.md. -/
def Obligations.ResetStateHasTheInvariant : Prop :=
  State.reset.Inv = true ∧ State.reset.tablesFresh

/-- In the fatal state every operation but RESET is a fault that names the reason (R135, R402, R420). -/
def Obligations.FatalStateHasNoStep : Prop :=
  (∀ (i : Instr) (s : State) (r : FatalReason), s.fatal = some r → (∀ c q, i ≠ .reset c q) →
      exec i s = .fault (.fatal r)) ∧
    ∀ (c : Config) (q : ResetPolicy) (s : State),
      supportedSize c.fbmemBytes = true → supportedSize c.tmumemBytes = true →
      ∃ t, exec (.reset c q) s = .next t ∧ t.fatal = none

/-- Nothing but a full cache or a bad memory size is fatal, and only the three named requests are refused
(R402, R403). -/
def Obligations.OnlyTheNamedCausesStopTheChip : Prop :=
  ∀ (i : Instr) (s : State), s.fatal = none →
    let triangle := (∃ k v, i ∈ [Instr.triangleCMD k v, .ftriangleCMD k v, .sDrawTriCMD k v]) ∨
      ∃ offset v, i = .regWr offset v ∧ effectiveIndex s offset ∈ [0x20, 0x40, 0xA8]
    (∀ r, exec i s ≠ .fault r) ∧
    (∀ t r, exec i s = .next t → t.fatal = some r →
      (r = .cacheOverflow ∧ triangle) ∨
      (r = .badMemorySize ∧ ∃ c q, i = .reset c q ∧
        ¬ (supportedSize c.fbmemBytes = true ∧ supportedSize c.tmumemBytes = true))) ∧
    ∀ r, exec i s = .refused r →
      (r = .directWrite ∧ ∃ offset v, i = .texWr offset v) ∨
      ((r = .badTextureFormat ∨ r = .lodOutOfRange) ∧ triangle)

/-- init_enable, bank 3, framebuffer RAM and texture RAM change only by the operations the rules name (R21,
R23, R24, R81, R406). -/
def Obligations.OnlyTheirOperationsReachThem : Prop :=
  ∀ (i : Instr) (s t : State), exec i s = .next t → (∀ c q, i ≠ .reset c q) →
    t.config = s.config ∧ t.pciFifoSize = s.pciFifoSize ∧ t.pending = s.pending ∧
    (t.initEnable = s.initEnable ∨ ∃ v, i = .pciIniten v) ∧
    (∀ index, index < 256 → t.reg 3 index = s.reg 3 index) ∧
    (t.fbi.ram = s.fbi.ram ∨
      (∃ k v, i ∈ [Instr.triangleCMD k v, .ftriangleCMD k v, .fastfillCMD k v, .sDrawTriCMD k v]) ∨
      (∃ offset v m, i = .lfbWr offset v m) ∨
      ∃ offset v, i = .regWr offset v ∧ effectiveIndex s offset ∈ [0x20, 0x40, 0x49, 0xA8]) ∧
    ((t.tmu0.ram = s.tmu0.ram ∧ t.tmu1.ram = s.tmu1.ram) ∨ ∃ offset v, i = .texWr offset v) ∧
    ((∃ offset v, encode i = .regWr offset v ∨ encode i = .grantedWr offset v) ∨
      ∀ bank index, bank < 4 → index < 256 → ¬ pipelineRegister bank index →
        t.reg bank index = s.reg bank index)
end

