-- ==== Sys2Proof/Laws/Memory.lean ====
section
/-! SUPPORT. The sparse store: a read after a write, the canonical form, the bound on its addresses. -/

namespace Sys2Proof.Machine

variable {w : Nat}

@[simp] theorem Memory.read_nil (k : Nat) : Memory.read ([] : Memory w) k = 0 := rfl

theorem Memory.read_cons (a : Nat) (v : BitVec w) (m : Memory w) (k : Nat) :
    Memory.read ((a, v) :: m) k = if a = k then v else m.read k := rfl

theorem Memory.wfFrom_mono {m : Memory w} {lo lo' : Nat} (h : m.wfFrom lo = true) (hle : lo' ≤ lo) :
    m.wfFrom lo' = true := by
  cases m with
  | nil => rfl
  | cons c t =>
    simp only [Memory.wfFrom, Bool.and_eq_true, decide_eq_true_eq] at h ⊢
    exact ⟨⟨Nat.le_trans hle h.1.1, h.1.2⟩, h.2⟩

/-- Below the first listed address a canonical store reads 0. -/
theorem Memory.read_of_lt {m : Memory w} {lo k : Nat} (h : m.wfFrom lo = true) (hk : k < lo) : m.read k = 0 := by
  induction m generalizing lo with
  | nil => rfl
  | cons c t ih =>
    obtain ⟨a, v⟩ := c
    simp only [Memory.wfFrom, Bool.and_eq_true, decide_eq_true_eq] at h
    have : a ≠ k := by omega
    simp only [Memory.read, if_neg this]
    exact ih h.2 (by omega)

theorem Memory.wfFrom_write {m : Memory w} {lo k : Nat} {v : BitVec w} (h : m.wfFrom lo = true) (hk : lo ≤ k) :
    (m.write k v).wfFrom lo = true := by
  induction m generalizing lo with
  | nil =>
    simp only [Memory.write]
    split <;> simp_all [Memory.wfFrom]
  | cons c t ih =>
    obtain ⟨a, x⟩ := c
    have h' := h
    simp only [Memory.wfFrom, Bool.and_eq_true, decide_eq_true_eq] at h
    obtain ⟨⟨h1, h2⟩, h3⟩ := h
    simp only [Memory.write]
    split
    · rename_i hlt
      split
      · exact h'
      · rename_i hv
        have hv : v ≠ 0 := hv
        simp only [Memory.wfFrom, Bool.and_eq_true, decide_eq_true_eq]
        exact ⟨⟨hk, hv⟩, ⟨by omega, h2⟩, h3⟩
    · split
      · split
        · exact Memory.wfFrom_mono h3 (by omega)
        · rename_i hv
          have hv : v ≠ 0 := hv
          simp only [Memory.wfFrom, Bool.and_eq_true, decide_eq_true_eq]
          exact ⟨⟨h1, hv⟩, h3⟩
      · simp only [Memory.wfFrom, Bool.and_eq_true, decide_eq_true_eq]
        exact ⟨⟨h1, h2⟩, ih h3 (by omega)⟩

/-- Every write keeps the canonical form. -/
theorem Memory.wf_write {m : Memory w} (h : m.wf = true) (k : Nat) (v : BitVec w) : (m.write k v).wf = true :=
  Memory.wfFrom_write h (Nat.zero_le k)

/-- A read after a write to the same cell. -/
theorem Memory.read_write_same {m : Memory w} {lo : Nat} (h : m.wfFrom lo = true) (k : Nat) (v : BitVec w) :
    (m.write k v).read k = v := by
  induction m generalizing lo with
  | nil =>
    simp only [Memory.write]
    split
    · simp_all [Memory.read]
    · simp [Memory.read]
  | cons c t ih =>
    obtain ⟨a, x⟩ := c
    simp only [Memory.wfFrom, Bool.and_eq_true, decide_eq_true_eq] at h
    obtain ⟨⟨_, _⟩, h3⟩ := h
    simp only [Memory.write]
    split
    · rename_i hlt
      split
      · rename_i hv
        have : a ≠ k := by omega
        simp only [Memory.read, if_neg this, hv]
        exact Memory.read_of_lt h3 (by omega)
      · simp [Memory.read]
    · split
      · rename_i hk
        split
        · rename_i hv
          rw [hv]
          exact Memory.read_of_lt h3 (by omega)
        · simp [Memory.read, hk]
      · rename_i hne
        have : a ≠ k := fun e => hne e.symm
        simp only [Memory.read, if_neg this]
        exact ih h3

/-- A read after a write to another cell. -/
theorem Memory.read_write_other (m : Memory w) {k j : Nat} (v : BitVec w) (hne : j ≠ k) :
    (m.write k v).read j = m.read j := by
  induction m with
  | nil =>
    simp only [Memory.write]
    split
    · rfl
    · simp [Memory.read, Ne.symm hne]
  | cons c t ih =>
    obtain ⟨a, x⟩ := c
    simp only [Memory.write]
    split
    · split
      · rfl
      · simp [Memory.read, Ne.symm hne]
    · split
      · rename_i hk
        have : a ≠ j := fun e => hne (by omega)
        split
        · simp [Memory.read, this]
        · simp [Memory.read, this]
      · simp only [Memory.read, ih]

/-- A read after a write, in one equation. -/
theorem Memory.read_write {m : Memory w} (h : m.wf = true) (k j : Nat) (v : BitVec w) :
    (m.write k v).read j = if j = k then v else m.read j := by
  split
  · rename_i e
    rw [e]
    exact Memory.read_write_same h k v
  · rename_i e
    exact Memory.read_write_other m v e

theorem Memory.below_write {m : Memory w} {n k : Nat} (h : m.below n = true) (hk : k < n) (v : BitVec w) :
    (m.write k v).below n = true := by
  induction m with
  | nil =>
    simp only [Memory.write]
    split <;> simp_all [Memory.below]
  | cons c t ih =>
    obtain ⟨a, x⟩ := c
    simp only [Memory.below, List.all_cons, Bool.and_eq_true, decide_eq_true_eq] at h
    have ht : Memory.below n t = true := h.2
    simp only [Memory.write]
    split
    · split
      · simp only [Memory.below, List.all_cons, Bool.and_eq_true, decide_eq_true_eq]
        exact ⟨h.1, h.2⟩
      · simp only [Memory.below, List.all_cons, Bool.and_eq_true, decide_eq_true_eq]
        exact ⟨hk, h.1, h.2⟩
    · split
      · split
        · exact ht
        · simp only [Memory.below, List.all_cons, Bool.and_eq_true, decide_eq_true_eq]
          exact ⟨h.1, h.2⟩
      · simp only [Memory.below, List.all_cons, Bool.and_eq_true, decide_eq_true_eq]
        exact ⟨h.1, ih ht⟩

/-- A store whose addresses lie below `n` reads 0 from `n` on. -/
theorem Memory.read_of_below {m : Memory w} {n k : Nat} (h : m.below n = true) (hk : n ≤ k) : m.read k = 0 := by
  induction m with
  | nil => rfl
  | cons c t ih =>
    obtain ⟨a, x⟩ := c
    simp only [Memory.below, List.all_cons, Bool.and_eq_true, decide_eq_true_eq] at h
    have : a ≠ k := by omega
    simp only [Memory.read, if_neg this]
    exact ih h.2

/-- A filtered run of rising addresses is canonical and bounded. -/
theorem Memory.wfFrom_tabulateAux (f : Nat → BitVec w) (n lo : Nat) :
    Memory.wfFrom lo (((List.range' lo n).map fun k => (k, f k)).filter fun c => decide (c.2 ≠ 0)) = true := by
  induction n generalizing lo with
  | zero => rfl
  | succ n ih =>
    simp only [List.range'_succ, List.map_cons, List.filter_cons]
    split
    · rename_i h
      simp only [Memory.wfFrom, Bool.and_eq_true, decide_eq_true_eq]
      refine ⟨⟨Nat.le_refl _, by simpa using h⟩, ih (lo + 1)⟩
    · exact Memory.wfFrom_mono (ih (lo + 1)) (Nat.le_succ lo)

theorem Memory.wf_tabulate (n : Nat) (f : Nat → BitVec w) : (Memory.tabulate n f).wf = true := by
  unfold Memory.tabulate Memory.wf
  rw [List.range_eq_range']
  exact Memory.wfFrom_tabulateAux f n 0

theorem Memory.below_tabulate (n : Nat) (f : Nat → BitVec w) : (Memory.tabulate n f).below n = true := by
  simp only [Memory.below, Memory.tabulate, List.all_eq_true, List.mem_filter, List.mem_map, List.mem_range]
  rintro c ⟨⟨k, hk, rfl⟩, -⟩
  simpa using hk

theorem Memory.read_tabulateAux (f : Nat → BitVec w) (n lo k : Nat) :
    Memory.read (((List.range' lo n).map fun k => (k, f k)).filter fun c => decide (c.2 ≠ 0)) k =
      if lo ≤ k ∧ k < lo + n then f k else 0 := by
  induction n generalizing lo with
  | zero => simp
  | succ n ih =>
    simp only [List.range'_succ, List.map_cons, List.filter_cons]
    by_cases hk : lo = k
    · subst hk
      have h1 : lo ≤ lo ∧ lo < lo + (n + 1) := by omega
      rw [if_pos h1]
      split
      · simp [Memory.read]
      · rename_i h
        rw [ih (lo + 1), if_neg (by omega)]
        have : f lo = 0 := by simpa using h
        exact this.symm
    · have e : (lo ≤ k ∧ k < lo + (n + 1)) ↔ (lo + 1 ≤ k ∧ k < lo + 1 + n) := by omega
      simp only [e]
      split
      · simp only [Memory.read, if_neg hk, ih (lo + 1)]
      · exact ih (lo + 1)

/-- A tabulated store reads its function. -/
theorem Memory.read_tabulate (n : Nat) (f : Nat → BitVec w) (k : Nat) :
    (Memory.tabulate n f).read k = if k < n then f k else 0 := by
  unfold Memory.tabulate
  rw [List.range_eq_range', Memory.read_tabulateAux]
  simp

end Sys2Proof.Machine
end

