-- ==== Sys2Proof/Laws/State.lean ====
section
/-! SUPPORT. One lemma per field per named update of the state, true by rfl, so that no proof unfolds a record
update; then the reads of a register after a named update. -/

namespace Sys2Proof.Machine

variable (s : State)

/-! ## setReg -/

@[simp] theorem State.setReg_regs (b i : Nat) (v : Word) : (s.setReg b i v).regs = s.regs.write (b * 256 + i) v := rfl
@[simp] theorem State.setReg_initEnable (b i : Nat) (v : Word) : (s.setReg b i v).initEnable = s.initEnable := rfl
@[simp] theorem State.setReg_pciFifoSize (b i : Nat) (v : Word) : (s.setReg b i v).pciFifoSize = s.pciFifoSize := rfl
@[simp] theorem State.setReg_dac (b i : Nat) (v : Word) : (s.setReg b i v).dac = s.dac := rfl
@[simp] theorem State.setReg_fbi (b i : Nat) (v : Word) : (s.setReg b i v).fbi = s.fbi := rfl
@[simp] theorem State.setReg_tmu0 (b i : Nat) (v : Word) : (s.setReg b i v).tmu0 = s.tmu0 := rfl
@[simp] theorem State.setReg_tmu1 (b i : Nat) (v : Word) : (s.setReg b i v).tmu1 = s.tmu1 := rfl
@[simp] theorem State.setReg_cache (b i : Nat) (v : Word) : (s.setReg b i v).cache = s.cache := rfl
@[simp] theorem State.setReg_stats (b i : Nat) (v : Word) : (s.setReg b i v).stats = s.stats := rfl
@[simp] theorem State.setReg_fatal (b i : Nat) (v : Word) : (s.setReg b i v).fatal = s.fatal := rfl
@[simp] theorem State.setReg_config (b i : Nat) (v : Word) : (s.setReg b i v).config = s.config := rfl
@[simp] theorem State.setReg_pending (b i : Nat) (v : Word) : (s.setReg b i v).pending = s.pending := rfl
@[simp] theorem State.setReg_result (b i : Nat) (v : Word) : (s.setReg b i v).result = s.result := rfl
@[simp] theorem State.setReg_draws (b i : Nat) (v : Word) : (s.setReg b i v).draws = s.draws := rfl

/-! ## setFbi -/

@[simp] theorem State.setFbi_regs (f : Fbi) : (s.setFbi f).regs = s.regs := rfl
@[simp] theorem State.setFbi_initEnable (f : Fbi) : (s.setFbi f).initEnable = s.initEnable := rfl
@[simp] theorem State.setFbi_pciFifoSize (f : Fbi) : (s.setFbi f).pciFifoSize = s.pciFifoSize := rfl
@[simp] theorem State.setFbi_dac (f : Fbi) : (s.setFbi f).dac = s.dac := rfl
@[simp] theorem State.setFbi_fbi (f : Fbi) : (s.setFbi f).fbi = f := rfl
@[simp] theorem State.setFbi_tmu0 (f : Fbi) : (s.setFbi f).tmu0 = s.tmu0 := rfl
@[simp] theorem State.setFbi_tmu1 (f : Fbi) : (s.setFbi f).tmu1 = s.tmu1 := rfl
@[simp] theorem State.setFbi_cache (f : Fbi) : (s.setFbi f).cache = s.cache := rfl
@[simp] theorem State.setFbi_stats (f : Fbi) : (s.setFbi f).stats = s.stats := rfl
@[simp] theorem State.setFbi_fatal (f : Fbi) : (s.setFbi f).fatal = s.fatal := rfl
@[simp] theorem State.setFbi_config (f : Fbi) : (s.setFbi f).config = s.config := rfl
@[simp] theorem State.setFbi_pending (f : Fbi) : (s.setFbi f).pending = s.pending := rfl
@[simp] theorem State.setFbi_result (f : Fbi) : (s.setFbi f).result = s.result := rfl
@[simp] theorem State.setFbi_draws (f : Fbi) : (s.setFbi f).draws = s.draws := rfl

/-! ## setStats -/

@[simp] theorem State.setStats_regs (c : Stats) : (s.setStats c).regs = s.regs := rfl
@[simp] theorem State.setStats_initEnable (c : Stats) : (s.setStats c).initEnable = s.initEnable := rfl
@[simp] theorem State.setStats_pciFifoSize (c : Stats) : (s.setStats c).pciFifoSize = s.pciFifoSize := rfl
@[simp] theorem State.setStats_dac (c : Stats) : (s.setStats c).dac = s.dac := rfl
@[simp] theorem State.setStats_fbi (c : Stats) : (s.setStats c).fbi = s.fbi := rfl
@[simp] theorem State.setStats_tmu0 (c : Stats) : (s.setStats c).tmu0 = s.tmu0 := rfl
@[simp] theorem State.setStats_tmu1 (c : Stats) : (s.setStats c).tmu1 = s.tmu1 := rfl
@[simp] theorem State.setStats_cache (c : Stats) : (s.setStats c).cache = s.cache := rfl
@[simp] theorem State.setStats_stats (c : Stats) : (s.setStats c).stats = c := rfl
@[simp] theorem State.setStats_fatal (c : Stats) : (s.setStats c).fatal = s.fatal := rfl
@[simp] theorem State.setStats_config (c : Stats) : (s.setStats c).config = s.config := rfl
@[simp] theorem State.setStats_pending (c : Stats) : (s.setStats c).pending = s.pending := rfl
@[simp] theorem State.setStats_result (c : Stats) : (s.setStats c).result = s.result := rfl
@[simp] theorem State.setStats_draws (c : Stats) : (s.setStats c).draws = s.draws := rfl

/-! ## drawn -/

@[simp] theorem State.drawn_regs : (s.drawn).regs = s.regs := rfl
@[simp] theorem State.drawn_initEnable : (s.drawn).initEnable = s.initEnable := rfl
@[simp] theorem State.drawn_pciFifoSize : (s.drawn).pciFifoSize = s.pciFifoSize := rfl
@[simp] theorem State.drawn_dac : (s.drawn).dac = s.dac := rfl
@[simp] theorem State.drawn_fbi : (s.drawn).fbi = s.fbi := rfl
@[simp] theorem State.drawn_tmu0 : (s.drawn).tmu0 = s.tmu0 := rfl
@[simp] theorem State.drawn_tmu1 : (s.drawn).tmu1 = s.tmu1 := rfl
@[simp] theorem State.drawn_cache : (s.drawn).cache = s.cache := rfl
@[simp] theorem State.drawn_stats : (s.drawn).stats = s.stats := rfl
@[simp] theorem State.drawn_fatal : (s.drawn).fatal = s.fatal := rfl
@[simp] theorem State.drawn_config : (s.drawn).config = s.config := rfl
@[simp] theorem State.drawn_pending : (s.drawn).pending = s.pending := rfl
@[simp] theorem State.drawn_result : (s.drawn).result = s.result := rfl
@[simp] theorem State.drawn_draws : (s.drawn).draws = s.draws + 1 := rfl

/-! ## setTmu -/

@[simp] theorem State.setTmu_regs (u : Nat) (t : Tmu) : (s.setTmu u t).regs = s.regs := by
  unfold State.setTmu; split <;> rfl
@[simp] theorem State.setTmu_initEnable (u : Nat) (t : Tmu) : (s.setTmu u t).initEnable = s.initEnable := by
  unfold State.setTmu; split <;> rfl
@[simp] theorem State.setTmu_pciFifoSize (u : Nat) (t : Tmu) : (s.setTmu u t).pciFifoSize = s.pciFifoSize := by
  unfold State.setTmu; split <;> rfl
@[simp] theorem State.setTmu_dac (u : Nat) (t : Tmu) : (s.setTmu u t).dac = s.dac := by
  unfold State.setTmu; split <;> rfl
@[simp] theorem State.setTmu_fbi (u : Nat) (t : Tmu) : (s.setTmu u t).fbi = s.fbi := by
  unfold State.setTmu; split <;> rfl
@[simp] theorem State.setTmu_cache (u : Nat) (t : Tmu) : (s.setTmu u t).cache = s.cache := by
  unfold State.setTmu; split <;> rfl
@[simp] theorem State.setTmu_stats (u : Nat) (t : Tmu) : (s.setTmu u t).stats = s.stats := by
  unfold State.setTmu; split <;> rfl
@[simp] theorem State.setTmu_fatal (u : Nat) (t : Tmu) : (s.setTmu u t).fatal = s.fatal := by
  unfold State.setTmu; split <;> rfl
@[simp] theorem State.setTmu_config (u : Nat) (t : Tmu) : (s.setTmu u t).config = s.config := by
  unfold State.setTmu; split <;> rfl
@[simp] theorem State.setTmu_pending (u : Nat) (t : Tmu) : (s.setTmu u t).pending = s.pending := by
  unfold State.setTmu; split <;> rfl
@[simp] theorem State.setTmu_result (u : Nat) (t : Tmu) : (s.setTmu u t).result = s.result := by
  unfold State.setTmu; split <;> rfl
@[simp] theorem State.setTmu_draws (u : Nat) (t : Tmu) : (s.setTmu u t).draws = s.draws := by
  unfold State.setTmu; split <;> rfl
@[simp] theorem State.setTmu_zero_tmu0 (t : Tmu) : (s.setTmu 0 t).tmu0 = t := rfl
@[simp] theorem State.setTmu_zero_tmu1 (t : Tmu) : (s.setTmu 0 t).tmu1 = s.tmu1 := rfl
@[simp] theorem State.setTmu_one_tmu0 (t : Tmu) : (s.setTmu 1 t).tmu0 = s.tmu0 := rfl
@[simp] theorem State.setTmu_one_tmu1 (t : Tmu) : (s.setTmu 1 t).tmu1 = t := rfl
@[simp] theorem State.setTmu_tmu (u : Nat) (t : Tmu) : (s.setTmu u t).tmu u = t := by
  unfold State.setTmu State.tmu; split <;> simp_all

/-! ## Register reads after an update -/

@[simp] theorem State.reg_setFbi (f : Fbi) (b i : Nat) : (s.setFbi f).reg b i = s.reg b i := rfl
@[simp] theorem State.reg_setStats (c : Stats) (b i : Nat) : (s.setStats c).reg b i = s.reg b i := rfl
@[simp] theorem State.reg_drawn (b i : Nat) : s.drawn.reg b i = s.reg b i := rfl
@[simp] theorem State.reg_setTmu (u : Nat) (t : Tmu) (b i : Nat) : (s.setTmu u t).reg b i = s.reg b i := by
  unfold State.reg; rw [State.setTmu_regs]
@[simp] theorem State.isV2_setReg (b i : Nat) (v : Word) : (s.setReg b i v).isV2 = s.isV2 := rfl
@[simp] theorem State.isV2_setFbi (f : Fbi) : (s.setFbi f).isV2 = s.isV2 := rfl
@[simp] theorem State.isV2_setStats (c : Stats) : (s.setStats c).isV2 = s.isV2 := rfl
@[simp] theorem State.isV2_drawn : s.drawn.isV2 = s.isV2 := rfl

/-! ## Counting a pixel -/

@[simp] theorem count_regs (k : Counter) : (count k s).regs = s.regs := rfl
@[simp] theorem count_initEnable (k : Counter) : (count k s).initEnable = s.initEnable := rfl
@[simp] theorem count_pciFifoSize (k : Counter) : (count k s).pciFifoSize = s.pciFifoSize := rfl
@[simp] theorem count_dac (k : Counter) : (count k s).dac = s.dac := rfl
@[simp] theorem count_fbi (k : Counter) : (count k s).fbi = s.fbi := rfl
@[simp] theorem count_tmu0 (k : Counter) : (count k s).tmu0 = s.tmu0 := rfl
@[simp] theorem count_tmu1 (k : Counter) : (count k s).tmu1 = s.tmu1 := rfl
@[simp] theorem count_cache (k : Counter) : (count k s).cache = s.cache := rfl
@[simp] theorem count_stats (k : Counter) : (count k s).stats = s.stats.add k 1 := rfl
@[simp] theorem count_fatal (k : Counter) : (count k s).fatal = s.fatal := rfl
@[simp] theorem count_config (k : Counter) : (count k s).config = s.config := rfl
@[simp] theorem count_pending (k : Counter) : (count k s).pending = s.pending := rfl
@[simp] theorem count_result (k : Counter) : (count k s).result = s.result := rfl
@[simp] theorem count_draws (k : Counter) : (count k s).draws = s.draws := rfl
@[simp] theorem count_reg (k : Counter) (b i : Nat) : (count k s).reg b i = s.reg b i := rfl

end Sys2Proof.Machine
end

