-- ==== Sys2Proof/Laws/Ops.lean ====
section
/-! SUPPORT. One lemma for each shared operation, saying what it can do: outcomes and loops, register stores,
framebuffer and texture writes, statistics. -/

namespace Sys2Proof.Machine

open Sys2Proof

/-! ## Outcomes -/

@[simp] theorem unlessFatal_none {s : State} {k : State → Answer} (h : s.fatal = none) : unlessFatal s k = k s := by
  unfold unlessFatal; rw [h]

theorem unlessFatal_some {s : State} {k : State → Answer} {r : FatalReason} (h : s.fatal = some r) :
    unlessFatal s k = .fault (.fatal r) := by
  unfold unlessFatal; rw [h]

/-- A meaning under the fatal check answers a next state only where there is no fatal reason. -/
theorem unlessFatal_next {s t : State} {k : State → Answer} (h : unlessFatal s k = .next t) :
    s.fatal = none ∧ k s = .next t := by
  unfold unlessFatal at h
  split at h
  · cases h
  · rename_i e
    exact ⟨e, h⟩

@[simp] theorem andThen_next (s : State) (k : State → Answer) : andThen (.next s) k = k s := rfl

theorem andThen_eq_next {o : Answer} {k : State → Answer} {t : State} (h : andThen o k = .next t) :
    ∃ s, o = .next s ∧ k s = .next t := by
  unfold andThen at h
  split at h
  · exact ⟨_, rfl, h⟩
  · cases h
  · cases h

/-! ## Loops -/

/-- What every pass keeps, the loop keeps. -/
theorem repeatFrom_invariant {P : State → Prop} {k : Nat → State → State} (hk : ∀ i s, P s → P (k i s)) (n i : Nat)
    {s : State} (h : P s) : P (repeatFrom n i k s) := by
  induction n generalizing i s with
  | zero => exact h
  | succ n ih => exact ih (i + 1) (hk i s h)

/-- The same with the index in its range. -/
theorem repeatFrom_invariant_range {P : State → Prop} {k : Nat → State → State} {n i : Nat}
    (hk : ∀ j s, i ≤ j → j < i + n → P s → P (k j s)) {s : State} (h : P s) : P (repeatFrom n i k s) := by
  induction n generalizing i s with
  | zero => exact h
  | succ n ih =>
    exact ih (fun j s h1 h2 => hk j s (by omega) (by omega)) (hk i s (by omega) (by omega) h)

/-- What every pass that answers keeps, the loop keeps, the index in its range. -/
theorem forRange_invariant {P : State → Prop} {k : Nat → State → Answer} {n i : Nat}
    (hk : ∀ j s t, i ≤ j → j < i + n → P s → k j s = .next t → P t) {s t : State} (h : P s)
    (ht : forRange n i k s = .next t) : P t := by
  induction n generalizing i s with
  | zero => cases ht; exact h
  | succ n ih =>
    obtain ⟨u, hu, hr⟩ := andThen_eq_next ht
    exact ih (fun j s t h1 h2 => hk j s t (by omega) (by omega)) (hk i s u (by omega) (by omega) h hu) hr

/-- Where every pass answers a next state, so does the loop. -/
theorem forRange_completes {P : State → Prop} {k : Nat → State → Answer} {n i : Nat}
    (hk : ∀ j s, i ≤ j → j < i + n → P s → ∃ t, k j s = .next t ∧ P t) {s : State} (h : P s) :
    ∃ t, forRange n i k s = .next t ∧ P t := by
  induction n generalizing i s with
  | zero => exact ⟨s, rfl, h⟩
  | succ n ih =>
    obtain ⟨u, hu, hp⟩ := hk i s (by omega) (by omega) h
    simp only [forRange, hu, andThen_next]
    exact ih (fun j s h1 h2 => hk j s (by omega) (by omega)) hp

/-! ## Registers -/

theorem State.reg_setReg {s : State} (hw : s.regs.wf = true) (b i c j : Nat) (hi : i < 256) (hj : j < 256)
    (v : Word) : (s.setReg b i v).reg c j = if c = b ∧ j = i then v else s.reg c j := by
  unfold State.reg
  rw [State.setReg_regs, Memory.read_write hw]
  have : (c * 256 + j = b * 256 + i) ↔ (c = b ∧ j = i) := by omega
  simp only [this]

/-- A register write leaves every other slot alone, whatever the store holds. -/
theorem State.reg_setReg_other (s : State) {b i c j : Nat} (hi : i < 256) (hj : j < 256) (v : Word)
    (hne : ¬(c = b ∧ j = i)) : (s.setReg b i v).reg c j = s.reg c j := by
  unfold State.reg
  rw [State.setReg_regs, Memory.read_write_other]
  omega

theorem State.wf_setReg {s : State} (hw : s.regs.wf = true) (b i : Nat) (v : Word) :
    (s.setReg b i v).regs.wf = true := Memory.wf_write hw _ _

/-- Does the select name bank `b`? -/
def Select.bank (sel : Select) (b : Nat) : Bool :=
  match b with
  | 0 => sel.fbi
  | 1 => sel.tmu0
  | 2 => sel.tmu1
  | _ => false

/-- A store writes the selected banks' slots of its index and no other slot (R131). -/
theorem storeBanks_reg {s : State} (hw : s.regs.wf = true) (sel : Select) (i b j : Nat) (hi : i < 256)
    (hj : j < 256) (v : Word) :
    (storeBanks sel i v s).reg b j = if j = i ∧ sel.bank b = true then v else s.reg b j := by
  have h1 : ∀ {u : State} (hu : u.regs.wf = true) (f : Bool) (k : Nat),
      (if f = true then u.setReg k i v else u).regs.wf = true := by
    intro u hu f k
    split
    · exact State.wf_setReg hu _ _ _
    · exact hu
  have h2 : ∀ {u : State} (hu : u.regs.wf = true) (f : Bool) (k : Nat),
      (if f = true then u.setReg k i v else u).reg b j = if f = true ∧ b = k ∧ j = i then v else u.reg b j := by
    intro u hu f k
    split
    · rename_i hf
      rw [State.reg_setReg hu _ _ _ _ hi hj]
      simp [hf]
    · rename_i hf
      simp [hf]
  unfold storeBanks
  simp only []
  rw [h2 (h1 (h1 hw _ _) _ _), h2 (h1 hw _ _), h2 hw]
  by_cases hj' : j = i
  · clear h1 h2
    obtain ⟨f, t0, t1⟩ := sel
    rcases b with _ | _ | _ | b <;> cases f <;> cases t0 <;> cases t1 <;> simp [hj', Select.bank]
  · simp [hj']

theorem storeBanks_wf {s : State} (hw : s.regs.wf = true) (sel : Select) (i : Nat) (v : Word) :
    (storeBanks sel i v s).regs.wf = true := by
  unfold storeBanks
  simp only []
  repeat' split
  all_goals first
    | exact hw
    | exact State.wf_setReg (by first | exact hw | exact State.wf_setReg (by first | exact hw | exact State.wf_setReg hw _ _ _) _ _ _) _ _ _

/-- A store changes the register file alone. -/
theorem storeBanks_eq (sel : Select) (i : Nat) (v : Word) (s : State) :
    storeBanks sel i v s = { s with regs := (storeBanks sel i v s).regs } := by
  unfold storeBanks
  cases sel with
  | mk f t0 t1 => cases f <;> cases t0 <;> cases t1 <;> rfl

/-! ## Framebuffer RAM -/

/-- A framebuffer word write changes RAM alone. -/
theorem fbWrite16_eq (a : Nat) (v : Half) (s : State) :
    fbWrite16 a v s = { s with fbi := { s.fbi with ram := (fbWrite16 a v s).fbi.ram } } := by
  unfold fbWrite16; split <;> rfl

/-- It writes its two bytes alone, and none where the word does not fit (R88). -/
theorem fbWrite16_read_other {s : State} {a : Nat} {v : Half} {k : Nat} (h1 : k ≠ a) (h2 : k ≠ a + 1) :
    (fbWrite16 a v s).fbi.ram.read k = s.fbi.ram.read k := by
  unfold fbWrite16
  split
  · rfl
  · simp only [State.setFbi]
    rw [Memory.read_write_other _ _ h2, Memory.read_write_other _ _ h1]

/-- The word just written is read back (R83). -/
theorem fbWrite16_word {s : State} {a : Nat} {v : Half} (hw : s.fbi.ram.wf = true)
    (hfit : a + 1 ≤ s.fbi.mask.toNat) : fbWord a (fbWrite16 a v s).fbi = v := by
  unfold fbWrite16 fbWord
  rw [if_neg (by omega)]
  simp only [State.setFbi]
  rw [Memory.read_write_same (Memory.wf_write hw _ _),
    Memory.read_write_other _ _ (by omega : a ≠ a + 1), Memory.read_write_same hw]
  apply BitVec.eq_of_getLsbD_eq
  intro i hi
  rw [BitVec.getLsbD_append]
  split
  · simp; omega
  · simp only [BitVec.getLsbD_extractLsb']
    have : i - 8 < 8 := by omega
    simp [this]
    congr 1
    omega

theorem Memory.inRange_write {w n k : Nat} {m : Memory w} (h : m.inRange n = true) (hk : k < n) (v : BitVec w) :
    (m.write k v).inRange n = true := by
  simp only [Memory.inRange, Bool.and_eq_true] at h ⊢
  exact ⟨Memory.wf_write h.1 _ _, Memory.below_write h.2 hk _⟩

theorem fbWrite16_inRange {s : State} (h : s.fbi.ram.inRange (s.fbi.mask.toNat + 1) = true) (a : Nat) (v : Half) :
    (fbWrite16 a v s).fbi.ram.inRange (s.fbi.mask.toNat + 1) = true := by
  unfold fbWrite16
  split
  · exact h
  · exact Memory.inRange_write (Memory.inRange_write h (by omega) _) (by omega) _

/-- A buffer write changes framebuffer RAM alone. -/
theorem bufferWrite_eq (base : Option Word) (x sy : Nat) (v : Half) (s : State) :
    bufferWrite base x sy v s = { s with fbi := { s.fbi with ram := (bufferWrite base x sy v s).fbi.ram } } := by
  unfold bufferWrite
  split
  · rfl
  · exact fbWrite16_eq _ _ _

/-- A buffer write touches the two bytes of its pixel alone. -/
theorem bufferWrite_read_other {base : Option Word} {x sy : Nat} {v : Half} {s : State} {a : Nat}
    (h : ¬ ownsByte s.fbi base x sy a) : (bufferWrite base x sy v s).fbi.ram.read a = s.fbi.ram.read a := by
  unfold bufferWrite
  unfold ownsByte at h
  split
  · rfl
  · simp only [not_or] at h
    exact fbWrite16_read_other h.1 h.2

theorem bufferWrite_inRange {base : Option Word} {x sy : Nat} {v : Half} {s : State}
    (h : s.fbi.ram.inRange (s.fbi.mask.toNat + 1) = true) :
    (bufferWrite base x sy v s).fbi.ram.inRange (s.fbi.mask.toNat + 1) = true := by
  unfold bufferWrite
  split
  · exact h
  · exact fbWrite16_inRange h _ _

/-! ## Texture RAM -/

/-- A texture byte write changes the unit's RAM alone. -/
theorem texWrite8_eq (a : Nat) (v : Byte) (t : Tmu) : texWrite8 a v t = { t with ram := (texWrite8 a v t).ram } := rfl

theorem texWrite8_inRange {t : Tmu} (h : t.ram.inRange (t.mask.toNat + 1) = true) (a : Nat) (v : Byte) :
    (texWrite8 a v t).ram.inRange (t.mask.toNat + 1) = true :=
  Memory.inRange_write h (Nat.lt_succ_of_le Nat.and_le_right) v

@[simp] theorem texWrite8_mask (a : Nat) (v : Byte) (t : Tmu) : (texWrite8 a v t).mask = t.mask := rfl

@[simp] theorem texWrite16_mask (a : Nat) (v : Half) (t : Tmu) : (texWrite16 a v t).mask = t.mask := rfl

/-- A texture byte write touches its masked byte alone (R200). -/
theorem texWrite8_read_other {a : Nat} {v : Byte} {t : Tmu} {k : Nat} (h : k ≠ a &&& t.mask.toNat) :
    (texWrite8 a v t).ram.read k = t.ram.read k := Memory.read_write_other _ _ h

/-! ## Statistics -/

/-- The fold changes the five registers and the statistics block (R140). -/
theorem foldStats_eq (s : State) :
    foldStats s = { s with regs := (foldStats s).regs, stats := (foldStats s).stats } := rfl

theorem foldStats_reg_other {s : State} {b i : Nat} (hi : i < 256)
    (h : ¬(b = 0 ∧ Reg.fbiPixelsIn ≤ i ∧ i ≤ Reg.fbiPixelsOut)) : (foldStats s).reg b i = s.reg b i := by
  unfold foldStats
  simp only [State.reg_setStats]
  rw [State.reg_setReg_other _ (by decide) hi, State.reg_setReg_other _ (by decide) hi,
    State.reg_setReg_other _ (by decide) hi, State.reg_setReg_other _ (by decide) hi,
    State.reg_setReg_other _ (by decide) hi] <;>
    (intro e; apply h; obtain ⟨e1, e2⟩ := e; refine ⟨e1, ?_, ?_⟩ <;> rw [e2] <;> decide)

theorem foldStats_wf {s : State} (hw : s.regs.wf = true) : (foldStats s).regs.wf = true := by
  unfold foldStats
  simp only [State.setStats_regs]
  exact State.wf_setReg (State.wf_setReg (State.wf_setReg (State.wf_setReg (State.wf_setReg hw _ _ _) _ _ _) _ _ _)
    _ _ _) _ _ _

/-! ## Fields -/

@[simp] theorem readField_run (low width : Nat) (v : Word) : readField (.run low width) v = field v low width := by
  simp [readField, FieldPlace.run]

end Sys2Proof.Machine
end

