-- ==== Sys2Proof/Laws/Bus.lean ====
section
/-! SUPPORT. What the one write path and the one read path of the register bus do (40_register_bus R130–R139),
said once: which banks a chip-select reaches, when a write is accepted, what it stores. -/

namespace Sys2Proof.Machine

open Sys2Proof

/-! ## Chip-select (R102) -/

/-- The select computed by the write path names exactly the present banks of the chip-select. -/
theorem selectOf_bank (c : Config) (chips : BitVec 4) (bank : Nat) (h : bank < 4) :
    (selectOf c chips).bank bank = selected c chips bank := by
  have h3 := c.ntmu.isLt
  have hb : ∀ i, i < 4 → bit (if chips = 0#4 then 15#4 else chips) i = (decide (chips = 0#4) || bit chips i) := by
    intro i hi
    by_cases hc : chips = 0#4
    · subst hc
      have : i = 0 ∨ i = 1 ∨ i = 2 ∨ i = 3 := by omega
      rcases this with rfl | rfl | rfl | rfl <;> rfl
    · simp [hc]
  have : bank = 0 ∨ bank = 1 ∨ bank = 2 ∨ bank = 3 := by omega
  rcases this with rfl | rfl | rfl | rfl
  · simp [Select.bank, selectOf, selected, hb]
  · simp [Select.bank, selectOf, selected, hb]
  · have : (c.ntmu.val = 2) ↔ (2 ≤ c.ntmu.val) := by omega
    simp [Select.bank, selectOf, selected, hb, this]
  · have : ¬ (3 ≤ c.ntmu.val) := by omega
    simp [Select.bank, selected, this]

theorem selectOf_fbi (c : Config) (chips : BitVec 4) : (selectOf c chips).fbi = selected c chips 0 :=
  selectOf_bank c chips 0 (by decide)

theorem selectOf_tmu0 (c : Config) (chips : BitVec 4) : (selectOf c chips).tmu0 = selected c chips 1 :=
  selectOf_bank c chips 1 (by decide)

theorem selectOf_tmu1 (c : Config) (chips : BitVec 4) : (selectOf c chips).tmu1 = selected c chips 2 :=
  selectOf_bank c chips 2 (by decide)

/-! ## The write path (R130–R134) -/

/-- What a store leaves in every slot, by chip-select. -/
theorem storeBanks_slots {s : State} (hw : s.regs.wf = true) (chips : BitVec 4) {index : Nat} (hi : index < 256)
    (v : Word) {bank i : Nat} (hb : bank < 4) (hj : i < 256) :
    (storeBanks (selectOf s.config chips) index v s).reg bank i =
      if i = index ∧ selected s.config chips bank = true then v else s.reg bank i := by
  rw [storeBanks_reg hw _ _ _ _ hi hj, selectOf_bank _ _ _ hb]

/-- An accepted write is its store and then its side effect. -/
theorem regWrite_accepted {s : State} {index : Nat} (h : Accepts s index) (e : RegEffect) (chips : BitVec 4)
    (v : Word) :
    regWrite index e chips v s =
      e.run (selectOf s.config chips) v (writeStored index e (selectOf s.config chips) v s) := by
  have hg : writeDropped s index = false := by
    have := h.gate
    unfold writeDropped
    cases hf : isFbiInit index <;> simp_all [h.access]
  unfold regWrite
  rw [unlessFatal_none h.running, if_neg (by simp [hg])]

/-- A write that a gate drops only clears the bus result (R132, R134, R401). -/
theorem regWrite_dropped {s : State} (hf : s.fatal = none) {index : Nat} (h : writeDropped s index = true)
    (e : RegEffect) (chips : BitVec 4) (v : Word) :
    regWrite index e chips v s = .next { s with result := none } := by
  unfold regWrite
  rw [unlessFatal_none hf, if_pos h]
  rfl

/-- The default access table gives no right at a reserved index (R31). -/
theorem defaultAccess_reserved (v : Variant) {index : Nat} (hi : index < 256) (h : reservedIndex index = true) :
    defaultAccess v index = 0 := by
  have : ∀ (v : Variant) (i : Fin 256), reservedIndex i.val = true → defaultAccess v i.val = 0 := by
    intro v; cases v <;> decide +kernel
  exact this v ⟨index, hi⟩ h

/-- Under the default access table a write at a reserved index is dropped (R132). -/
theorem writeDropped_reserved {s : State} (ha : s.config.access = none) {index : Nat} (hi : index < 256)
    (h : reservedIndex index = true) : writeDropped s index = true := by
  simp [writeDropped, writable, accessFlags, ha, defaultAccess_reserved _ hi h, bit]

/-- The write that no access right lets in only clears the bus result (R132, R401). -/
theorem reservedWrite_eq {s : State} (hf : s.fatal = none) : reservedWrite s = .next { s with result := none } := by
  unfold reservedWrite
  rw [unlessFatal_none hf]
  rfl

/-! ## The read path (R139, R409) -/

/-- A read with no read right answers all ones. -/
theorem regRead_unreadable {s : State} (hf : s.fatal = none) {index : Nat}
    (h : readable s.config index = false) (chips : BitVec 4) :
    regRead index chips s = .next { s with result := some 0xFFFFFFFF } := by
  unfold regRead
  rw [unlessFatal_none hf]
  simp [h, answer]

/-- A read with a read right is the value of the register. -/
theorem regRead_readable {s : State} (hf : s.fatal = none) {index : Nat}
    (h : readable s.config index = true) (chips : BitVec 4) :
    regRead index chips s = readValue index chips s := by
  unfold regRead
  rw [unlessFatal_none hf, if_pos h]

end Sys2Proof.Machine
end

