-- ==== Sys2Proof/Laws/Draw.lean ====
section
/-! SUPPORT. What drawing leaves alone, stage by stage: `DrawKeeps` composes, and every stage of the pipeline,
every fetch and every loop over pixels has it. -/

namespace Sys2Proof.Machine

open Sys2Proof

/-! ## The relation -/

theorem Tmu.sameProgram_refl (t : Tmu) : t.sameProgram t := rfl

theorem Tmu.sameProgram_trans {t u v : Tmu} (h1 : t.sameProgram u) (h2 : u.sameProgram v) : t.sameProgram v :=
  Eq.trans h2 h1

theorem DrawKeeps.refl (s : State) : DrawKeeps s s :=
  ⟨rfl, rfl, rfl, rfl, rfl, rfl, fun _ _ _ _ _ => rfl, rfl, Tmu.sameProgram_refl _, Tmu.sameProgram_refl _⟩

theorem DrawKeeps.trans {s t u : State} (h1 : DrawKeeps s t) (h2 : DrawKeeps t u) : DrawKeeps s u where
  initEnable := h2.initEnable.trans h1.initEnable
  pciFifoSize := h2.pciFifoSize.trans h1.pciFifoSize
  dac := h2.dac.trans h1.dac
  fatal := h2.fatal.trans h1.fatal
  config := h2.config.trans h1.config
  pending := h2.pending.trans h1.pending
  regs := fun b i hb hi hp => (h2.regs b i hb hi hp).trans (h1.regs b i hb hi hp)
  fbi := by rw [h2.fbi, h1.fbi]
  tmu0 := Tmu.sameProgram_trans h1.tmu0 h2.tmu0
  tmu1 := Tmu.sameProgram_trans h1.tmu1 h2.tmu1

/-- A change of statistics, draws and result keeps everything else. -/
theorem DrawKeeps.of_counters (s : State) (c : Stats) (n : Nat) (r : Option Word) :
    DrawKeeps s { s with stats := c, draws := n, result := r } :=
  ⟨rfl, rfl, rfl, rfl, rfl, rfl, fun _ _ _ _ _ => rfl, rfl, Tmu.sameProgram_refl _, Tmu.sameProgram_refl _⟩

theorem DrawKeeps.count (k : Counter) (s : State) : DrawKeeps s (count k s) :=
  DrawKeeps.of_counters s (s.stats.add k 1) s.draws s.result

theorem DrawKeeps.drawn (s : State) : DrawKeeps s s.drawn := DrawKeeps.of_counters s s.stats (s.draws + 1) s.result

/-- A write of a pipeline register keeps everything else. -/
theorem DrawKeeps.setReg {s : State} {i : Nat} (hi : pipelineRegister 0 i) (v : Word) :
    DrawKeeps s (s.setReg 0 i v) where
  initEnable := rfl
  pciFifoSize := rfl
  dac := rfl
  fatal := rfl
  config := rfl
  pending := rfl
  regs := by
    intro b j _ hj hp
    refine State.reg_setReg_other s ?_ hj v ?_
    · have := hi.2
      simp only [Reg.stipple, Reg.fbiPixelsIn, Reg.fbiPixelsOut] at this
      omega
    · rintro ⟨rfl, rfl⟩
      exact hp hi
  fbi := rfl
  tmu0 := Tmu.sameProgram_refl _
  tmu1 := Tmu.sameProgram_refl _

theorem DrawKeeps.bufferWrite (base : Option Word) (x sy : Nat) (v : Half) (s : State) :
    DrawKeeps s (bufferWrite base x sy v s) := by
  rw [bufferWrite_eq]
  exact ⟨rfl, rfl, rfl, rfl, rfl, rfl, fun _ _ _ _ _ => rfl, rfl, Tmu.sameProgram_refl _, Tmu.sameProgram_refl _⟩

theorem DrawKeeps.foldStats (s : State) : DrawKeeps s (foldStats s) where
  initEnable := rfl
  pciFifoSize := rfl
  dac := rfl
  fatal := rfl
  config := rfl
  pending := rfl
  regs := by
    intro b i _ hi hp
    refine foldStats_reg_other hi fun e => hp ⟨e.1, Or.inr e.2⟩
  fbi := rfl
  tmu0 := Tmu.sameProgram_refl _
  tmu1 := Tmu.sameProgram_refl _

/-! ## Reads that may draw -/

theorem fbRead16_state (a : Nat) (s : State) : (fbRead16 a s).2 = s ∨ (fbRead16 a s).2 = s.drawn := by
  unfold fbRead16
  split
  · exact Or.inr rfl
  · exact Or.inl rfl

theorem depthRead_state (s : State) (x sy : Nat) : (depthRead s x sy).2 = s ∨ (depthRead s x sy).2 = s.drawn := by
  unfold depthRead
  split
  · split
    · exact Or.inl rfl
    · exact fbRead16_state _ _
  · exact Or.inl rfl

theorem bufferRead_state (base : Option Word) (x sy : Nat) (s : State) :
    (bufferRead base x sy s).2 = s ∨ (bufferRead base x sy s).2 = s.drawn := by
  unfold bufferRead
  split
  · exact Or.inr rfl
  · exact fbRead16_state _ _

/-- A state that differs in its draws alone. -/
def drawsOnly (s t : State) : Prop := ∃ n, t = { s with draws := n }

theorem drawsOnly.of_state {s t : State} (h : t = s ∨ t = s.drawn) : drawsOnly s t := by
  rcases h with h | h
  · exact ⟨s.draws, h⟩
  · exact ⟨s.draws + 1, h⟩

theorem drawsOnly.trans {s t u : State} (h1 : drawsOnly s t) (h2 : drawsOnly t u) : drawsOnly s u := by
  obtain ⟨n, rfl⟩ := h1
  obtain ⟨m, rfl⟩ := h2
  exact ⟨m, rfl⟩

theorem drawsOnly.keeps {s t : State} (h : drawsOnly s t) : DrawKeeps s t := by
  obtain ⟨n, rfl⟩ := h
  exact DrawKeeps.of_counters s s.stats n s.result

theorem drawsOnly.ram {s t : State} (h : drawsOnly s t) : t.fbi = s.fbi := by
  obtain ⟨n, rfl⟩ := h
  rfl

theorem destAlpha_state (x sy : Nat) (s : State) : drawsOnly s (destAlpha x sy s).2 := by
  unfold destAlpha
  split
  · exact drawsOnly.of_state (bufferRead_state _ _ _ _)
  · exact ⟨s.draws, rfl⟩

theorem alphaBlend_state (base : Option Word) (x y sy : Nat) (c before : Argb) (s : State) :
    drawsOnly s (alphaBlend base x y sy c before s).2 := by
  unfold alphaBlend
  simp only []
  split
  · exact ⟨s.draws, rfl⟩
  · exact (drawsOnly.of_state (bufferRead_state _ _ _ _)).trans (destAlpha_state _ _ _)

/-! ## The stages -/

theorem stippleRotate_keeps (s : State) : DrawKeeps s (stippleRotate s) := by
  unfold stippleRotate
  simp only []
  split
  · exact DrawKeeps.setReg ⟨rfl, Or.inl rfl⟩ _
  · exact DrawKeeps.refl s

theorem stippleRotate_fbi (s : State) : (stippleRotate s).fbi = s.fbi := by
  unfold stippleRotate
  simp only []
  split <;> rfl

theorem pixelFront_keeps (x y : Nat) (z : Word) (w : DWord) (s : State) : DrawKeeps s (pixelFront x y z w s).2 := by
  have h1 : DrawKeeps s (stippleRotate (count .pixelsIn s)) := (DrawKeeps.count _ s).trans (stippleRotate_keeps _)
  unfold pixelFront
  simp only []
  split
  · exact DrawKeeps.refl s
  · split
    · exact h1.trans (DrawKeeps.count _ _)
    · split
      · exact h1.trans (drawsOnly.of_state (depthRead_state _ _ _)).keeps
      · exact (h1.trans (drawsOnly.of_state (depthRead_state _ _ _)).keeps).trans (DrawKeeps.count _ _)

/-- The front of the pipeline writes no memory. -/
theorem pixelFront_fbi (x y : Nat) (z : Word) (w : DWord) (s : State) : (pixelFront x y z w s).2.fbi = s.fbi := by
  have h1 : (stippleRotate (count .pixelsIn s)).fbi = s.fbi := (stippleRotate_fbi _).trans rfl
  unfold pixelFront
  simp only []
  split
  · rfl
  · split
    · exact h1
    · split
      · exact (drawsOnly.of_state (depthRead_state _ _ _)).ram.trans h1
      · exact (drawsOnly.of_state (depthRead_state _ _ _)).ram.trans h1

/-- A pixel that passes the front carries its own screen row. -/
theorem pixelFront_sy {x y : Nat} {z : Word} {w : DWord} {s : State} {d : Depth}
    (h : (pixelFront x y z w s).1 = some d) : d.sy = screenY s y := by
  unfold pixelFront at h
  simp only [] at h
  split at h
  · cases h
  · split at h
    · cases h
    · split at h
      · cases h; rfl
      · cases h

theorem writeOut_keeps (base : Option Word) (x y : Nat) (d : Depth) (c : Argb) (s : State) :
    DrawKeeps s (writeOut base x y d c s) := by
  unfold writeOut
  simp only []
  split
  · split
    · exact (DrawKeeps.bufferWrite _ _ _ _ _).trans (DrawKeeps.bufferWrite _ _ _ _ _)
    · exact DrawKeeps.bufferWrite _ _ _ _ _
  · split
    · exact DrawKeeps.bufferWrite _ _ _ _ _
    · exact DrawKeeps.refl s

theorem bufferWrite_fbi_aux (base : Option Word) (x sy : Nat) (v : Half) (s : State) :
    (bufferWrite base x sy v s).fbi.auxoffs = s.fbi.auxoffs := by
  rw [bufferWrite_eq]

theorem ownsByte_congr {f f' : Fbi} (h : f'.rowpixels = f.rowpixels) (base : Option Word) (x sy a : Nat) :
    ownsByte f' base x sy a ↔ ownsByte f base x sy a := by
  unfold ownsByte pixelOffset
  rw [h]

/-- A conditional buffer write touches the two bytes of its pixel alone. -/
theorem ite_bufferWrite_read {c : Bool} {base : Option Word} {x sy : Nat} {v : Half} {s : State} {a : Nat}
    (h : ¬ ownsByte s.fbi base x sy a) :
    (if c = true then bufferWrite base x sy v s else s).fbi.ram.read a = s.fbi.ram.read a := by
  split
  · exact bufferWrite_read_other h
  · rfl

theorem ite_bufferWrite_fbi (c : Bool) (base : Option Word) (x sy : Nat) (v : Half) (s : State) :
    (if c = true then bufferWrite base x sy v s else s).fbi.auxoffs = s.fbi.auxoffs ∧
      (if c = true then bufferWrite base x sy v s else s).fbi.rowpixels = s.fbi.rowpixels := by
  split
  · rw [bufferWrite_eq]
    exact ⟨rfl, rfl⟩
  · exact ⟨rfl, rfl⟩

/-- Write-out touches the bytes of its own pixel alone (R340). -/
theorem writeOut_read {base : Option Word} {x y : Nat} {d : Depth} {c : Argb} {s : State} {a : Nat}
    (h : ¬ pixelByte s.fbi base x d.sy a) : (writeOut base x y d c s).fbi.ram.read a = s.fbi.ram.read a := by
  unfold pixelByte at h
  simp only [not_or] at h
  unfold writeOut
  simp only []
  obtain ⟨e1, e2⟩ := ite_bufferWrite_fbi (FbzMode.rgbBufferMask (s.reg 0 Reg.fbzMode)) base x d.sy
    (dither565 s.config.constants (s.reg 0 Reg.fbzMode) c.r.toNat c.g.toNat c.b.toNat x y) s
  rw [ite_bufferWrite_read, ite_bufferWrite_read h.1]
  rw [e1, ownsByte_congr e2]
  exact h.2

theorem pixelBack_keeps (base : Option Word) (x y : Nat) (d : Depth) (z : Word) (w : DWord) (ia c : Argb)
    (s : State) : DrawKeeps s (pixelBack base x y d z w ia c s) := by
  unfold pixelBack
  exact ((alphaBlend_state _ _ _ _ _ _ _).keeps.trans (writeOut_keeps _ _ _ _ _ _)).trans (DrawKeeps.count _ _)

theorem pixelBack_read {base : Option Word} {x y : Nat} {d : Depth} {z : Word} {w : DWord} {ia c : Argb} {s : State}
    {a : Nat} (h : ¬ pixelByte s.fbi base x d.sy a) :
    (pixelBack base x y d z w ia c s).fbi.ram.read a = s.fbi.ram.read a := by
  unfold pixelBack
  simp only [count_fbi]
  have e := (alphaBlend_state base x y d.sy (fog s x y d.wf z w ia c) c s).ram
  rw [writeOut_read (by rw [e]; exact h), e]

/-! ## Fetches -/

theorem recomputeFrom_sameProgram (c : Config) (m l d b : Word) (t : Tmu) :
    t.sameProgram (recomputeFrom c m l d b t) := rfl

theorem freshNcc_program (c : Constants) (n : Ncc) : (freshNcc c n).program = n.program := by
  unfold freshNcc; split <;> rfl

theorem freshTables_sameProgram (c : Constants) (mode : Word) (t : Tmu) :
    t.sameProgram (freshTables c mode t) := by
  unfold freshTables
  split
  · split <;> (unfold Tmu.sameProgram Tmu.program; simp only [freshNcc_program])
  · exact Tmu.sameProgram_refl t

theorem DrawKeeps.setTmu {s : State} {u : Nat} {t : Tmu} (h : (s.tmu u).sameProgram t) : DrawKeeps s (s.setTmu u t) := by
  unfold State.tmu at h
  unfold State.setTmu
  split
  · rename_i hu
    rw [if_pos hu] at h
    exact ⟨rfl, rfl, rfl, rfl, rfl, rfl, fun _ _ _ _ _ => rfl, rfl, h, Tmu.sameProgram_refl _⟩
  · rename_i hu
    rw [if_neg hu] at h
    exact ⟨rfl, rfl, rfl, rfl, rfl, rfl, fun _ _ _ _ _ => rfl, rfl, Tmu.sameProgram_refl _, h⟩

theorem freshUnit_keeps (u : Nat) (s : State) : DrawKeeps s (freshUnit u s) := by
  unfold freshUnit recomputeUnit
  split
  · exact DrawKeeps.setTmu (recomputeFrom_sameProgram _ _ _ _ _ _)
  · exact DrawKeeps.refl s

theorem freshUnit_fbi (u : Nat) (s : State) : (freshUnit u s).fbi = s.fbi := by
  unfold freshUnit recomputeUnit
  split
  · exact State.setTmu_fbi _ _ _
  · rfl

theorem texUnit_ok {u x y : Nat} {it : UnitIter} {o c : Argb} {s t : State} (h : texUnit u x y it o s = .ok (c, t)) :
    DrawKeeps s t ∧ t.fbi = s.fbi := by
  unfold texUnit at h
  simp only [] at h
  split at h
  · cases h
  · cases h
    exact ⟨DrawKeeps.setTmu (freshTables_sameProgram _ _ _), State.setTmu_fbi _ _ _⟩

theorem textureStep_ok {u x y : Nat} {it : UnitIter} {o c : Argb} {s t : State}
    (h : textureStep u x y it o s = .ok (c, t)) : DrawKeeps s t ∧ t.fbi = s.fbi := by
  unfold textureStep at h
  simp only [] at h
  split at h
  · obtain ⟨h1, h2⟩ := texUnit_ok h
    exact ⟨(freshUnit_keeps u s).trans h1, h2.trans (freshUnit_fbi u s)⟩
  · cases h
    exact ⟨freshUnit_keeps u s, freshUnit_fbi u s⟩

/-- The texture stage writes nothing but the derived tables of its units. -/
theorem textureStage_ok {n x y : Nat} {it0 it1 : UnitIter} {c : Argb} {s t : State}
    (h : textureStage n x y it0 it1 s = .ok (c, t)) : DrawKeeps s t ∧ t.fbi = s.fbi := by
  unfold textureStage at h
  simp only [] at h
  have first : ∀ {c u}, (if 2 ≤ n then textureStep 1 x y it1 { a := 0, r := 0, g := 0, b := 0 } s
      else .ok ({ a := 0, r := 0, g := 0, b := 0 }, s)) = Except.ok (c, u) → DrawKeeps s u ∧ u.fbi = s.fbi := by
    intro c u hu
    split at hu
    · exact textureStep_ok hu
    · cases hu
      exact ⟨DrawKeeps.refl s, rfl⟩
  split at h
  · cases h
  · rename_i hu
    obtain ⟨k1, f1⟩ := first hu
    split at h
    · obtain ⟨k2, f2⟩ := textureStep_ok h
      exact ⟨k1.trans k2, f2.trans f1⟩
    · cases h
      exact ⟨k1, f1⟩

/-- With no active unit the stage gives 0 and changes nothing (R305). -/
theorem textureStage_zero (x y : Nat) (it0 it1 : UnitIter) (s : State) :
    textureStage 0 x y it0 it1 s = .ok ({ a := 0, r := 0, g := 0, b := 0 }, s) := rfl

/-! ## A pixel of a triangle -/

theorem pixelColour_keeps (x y : Nat) (d : Depth) (it : PixelIter) (tex : Argb) (s : State) :
    DrawKeeps s (pixelColour x y d it tex s) := by
  unfold pixelColour
  simp only []
  split
  · exact DrawKeeps.count _ _
  · split
    · exact DrawKeeps.count _ _
    · split
      · exact DrawKeeps.count _ _
      · exact pixelBack_keeps _ _ _ _ _ _ _ _ _

theorem pixelColour_read {x y : Nat} {d : Depth} {it : PixelIter} {tex : Argb} {s : State} {a : Nat}
    (h : ¬ pixelByte s.fbi (drawBase s) x d.sy a) : (pixelColour x y d it tex s).fbi.ram.read a = s.fbi.ram.read a := by
  unfold pixelColour
  simp only []
  split
  · rfl
  · split
    · rfl
    · split
      · rfl
      · exact pixelBack_read h

/-- The registers the frame of a draw keeps. -/
theorem DrawKeeps.reg0 {s t : State} (h : DrawKeeps s t) {i : Nat} (hi : i < 256) (hn : i ≠ Reg.stipple)
    (hs : ¬(Reg.fbiPixelsIn ≤ i ∧ i ≤ Reg.fbiPixelsOut)) : t.reg 0 i = s.reg 0 i :=
  h.regs 0 i (by decide) hi fun e => e.2.elim hn hs

theorem DrawKeeps.drawBase {s t : State} (h : DrawKeeps s t) : drawBase t = drawBase s := by
  unfold Machine.drawBase
  rw [h.reg0 (by decide) (by decide) (by decide), h.fbi, h.config]
  rfl

theorem DrawKeeps.screenY {s t : State} (h : DrawKeeps s t) (y : Nat) : screenY t y = screenY s y := by
  unfold Machine.screenY flipY
  rw [h.reg0 (by decide) (by decide) (by decide), h.fbi, h.config]

theorem DrawKeeps.pixelByte {s t : State} (h : DrawKeeps s t) (base : Option Word) (x sy a : Nat) :
    pixelByte t.fbi base x sy a ↔ pixelByte s.fbi base x sy a := by
  unfold Machine.pixelByte
  have e1 : t.fbi.auxoffs = s.fbi.auxoffs := by rw [h.fbi]
  have e2 : t.fbi.rowpixels = s.fbi.rowpixels := by rw [h.fbi]
  rw [e1, ownsByte_congr e2, ownsByte_congr e2]

/-- The pixel of a triangle: what it keeps, and the bytes it can touch. -/
theorem pixel_next {n x y : Nat} {it : PixelIter} {it0 it1 : UnitIter} {s t : State}
    (h : pixel n x y it it0 it1 s = .next t) :
    DrawKeeps s t ∧ ∀ a, ¬ pixelByte s.fbi (drawBase s) x (screenY s y) a →
      t.fbi.ram.read a = s.fbi.ram.read a := by
  have kf := pixelFront_keeps x y it.z it.w s
  have ff := pixelFront_fbi x y it.z it.w s
  have fy := @pixelFront_sy x y it.z it.w s
  unfold pixel at h
  split at h
  · rename_i u e
    cases h
    rw [e] at kf ff
    exact ⟨kf, fun a _ => by rw [ff]⟩
  · rename_i d u e
    rw [e] at kf ff
    have hsy : d.sy = Machine.screenY s y := fy (by rw [e])
    split at h
    · cases h
    · rename_i tex v hv
      cases h
      obtain ⟨k2, f2⟩ := textureStage_ok hv
      have k : DrawKeeps s v := kf.trans k2
      refine ⟨k.trans (pixelColour_keeps _ _ _ _ _ _), fun a ha => ?_⟩
      rw [pixelColour_read]
      · rw [f2, ff]
      · rw [hsy, k.drawBase, k.pixelByte]
        exact ha

/-! ## The mip level of a fetch -/

/-- With every level present and a LOD maximum below 9.0, under the stated fraction bits of a LOD, no mip level is
above 8 (R194). -/
theorem texcoord_level_le (c : Config) (t : Tmu) (mode : Word) (x y : Nat) (s u w : DWord) {base : Int}
    (hf : c.constants.lodFrac = 8) (hm : t.lodmask = 0x1FF) (hl : t.lodmax.toInt < 9 * 2 ^ 8) :
    (texcoord c t mode x y s u w base).ilod ≤ 8 := by
  have hc : ∀ v : Int, (clampInt v t.lodmin.toInt t.lodmax.toInt / 2 ^ 8).toNat ≤ 8 := by
    intro v
    have : clampInt v t.lodmin.toInt t.lodmax.toInt ≤ t.lodmax.toInt := by
      unfold clampInt
      simp only []
      split <;> omega
    omega
  have hb : ∀ i : Fin 9, bit (0x1FF : BitVec 9) i.val = true := by decide
  have hv : ∀ lod : Int, (lod / 2 ^ 8).toNat ≤ 8 → levelOf c.constants.lodFrac t lod ≤ 8 := by
    intro lod h
    unfold levelOf
    simp only [hf, hm]
    rw [if_pos (hb ⟨_, by omega⟩)]
    exact h
  exact hv _ (hc _)

/-- With no active unit the pixel always completes. -/
theorem pixel_zero_next (x y : Nat) (it : PixelIter) (it0 it1 : UnitIter) (s : State) :
    ∃ t, pixel 0 x y it it0 it1 s = .next t := by
  unfold pixel
  split
  · exact ⟨_, rfl⟩
  · rw [textureStage_zero]
    exact ⟨_, rfl⟩

/-! ## A pixel of an LFB write -/

theorem lfbPipelinePixel_keeps (base : Option Word) (x y : Nat) (p : LfbPixel) (s : State) :
    DrawKeeps s (lfbPipelinePixel base x y p s) := by
  have kf := pixelFront_keeps x y (p.z s.config.constants) (p.iw s.config.constants) s
  unfold lfbPipelinePixel
  split
  · rename_i u e
    rw [e] at kf
    exact kf
  · rename_i d u e
    rw [e] at kf
    refine kf.trans ?_
    unfold lfbPipelineColour
    simp only []
    split
    · exact DrawKeeps.count _ _
    · split
      · exact DrawKeeps.count _ _
      · split
        · exact DrawKeeps.count _ _
        · exact pixelBack_keeps _ _ _ _ _ _ _ _ _

theorem lfbRawPixel_keeps (base : Option Word) (x y : Nat) (p : LfbPixel) (s : State) :
    DrawKeeps s (lfbRawPixel base x y p s) := by
  have h1 : DrawKeeps s (rawColour base x y p s) := by
    unfold rawColour
    simp only []
    split
    · exact DrawKeeps.bufferWrite _ _ _ _ _
    · exact DrawKeeps.refl s
  have h2 : ∀ u, DrawKeeps u (rawAux x y p u) := by
    intro u
    unfold rawAux
    simp only []
    repeat' split
    all_goals first
      | exact DrawKeeps.bufferWrite _ _ _ _ _
      | exact DrawKeeps.refl u
  exact (h1.trans (h2 _)).trans (DrawKeeps.count _ _)

theorem lfbPixel_keeps (pipeline : Bool) (base : Option Word) (x y : Nat) (p : LfbPixel) (s : State) :
    DrawKeeps s (lfbPixel pipeline base x y p s) := by
  unfold lfbPixel
  split
  · exact DrawKeeps.refl s
  · split
    · exact lfbPipelinePixel_keeps _ _ _ _ _
    · exact lfbRawPixel_keeps _ _ _ _ _

/-- The pixels of an LFB write keep what drawing keeps. -/
theorem lfbPixels_keeps (pipeline : Bool) (base : Option Word) (offset : Word) (w : LfbWord) (s : State) :
    DrawKeeps s (lfbPixels pipeline base offset w s) := by
  unfold lfbPixels
  split
  · exact lfbPixel_keeps _ _ _ _ _ _
  · exact (lfbPixel_keeps _ _ _ _ _ _).trans (lfbPixel_keeps _ _ _ _ _ _)

/-! ## Fastfill -/

theorem fillPixel_keeps (x y : Nat) (s : State) : DrawKeeps s (fillPixel x y s) := by
  unfold fillPixel
  simp only []
  split
  · split
    · exact (DrawKeeps.bufferWrite _ _ _ _ _).trans (DrawKeeps.bufferWrite _ _ _ _ _)
    · exact DrawKeeps.bufferWrite _ _ _ _ _
  · split
    · exact DrawKeeps.bufferWrite _ _ _ _ _
    · exact DrawKeeps.refl s

theorem fastfill_keeps (s : State) : DrawKeeps s (fastfill s) := by
  unfold fastfill
  simp only []
  split
  · exact DrawKeeps.refl s
  · refine DrawKeeps.trans ?_ (DrawKeeps.foldStats _)
    refine repeatFrom_invariant (P := fun t => DrawKeeps s t) (fun y t h => ?_) _ _ (DrawKeeps.refl s)
    refine h.trans ?_
    unfold fillRow
    simp only []
    have hr : ∀ n x0 t, DrawKeeps t (repeatFrom n x0 (fun x => fillPixel x y) t) := fun n x0 t =>
      repeatFrom_invariant (P := fun u => DrawKeeps t u) (fun x u hu => hu.trans (fillPixel_keeps x y u)) _ _
        (DrawKeeps.refl t)
    split
    · exact (hr _ _ _).trans (DrawKeeps.of_counters _ _ _ _)
    · exact hr _ _ _

/-! ## A triangle's pixels -/

/-- The rasterizer keeps what drawing keeps, and touches only bytes of the pixels of its screen. -/
theorem rasterize_next {n : Snapshot} {s t : State} (h : rasterize n s = .next t) : DrawKeeps s t := by
  unfold rasterize at h
  refine forRange_invariant (P := fun u => DrawKeeps s u) (fun y u v _ _ hu hv => ?_) (DrawKeeps.refl s) h
  unfold rasterRow at hv
  refine forRange_invariant (P := fun u => DrawKeeps s u) (fun x u v _ _ hu hv => ?_) hu hv
  unfold snapPixel at hv
  exact hu.trans (pixel_next hv).1

/-- With no active unit the rasterizer always completes. -/
theorem rasterize_zero_next {n : Snapshot} (hn : n.texcount = 0) (s : State) : ∃ t, rasterize n s = .next t := by
  unfold rasterize
  have := forRange_completes (P := fun _ => True) (k := rasterRow n (sortPoints n.va.point n.vb.point n.vc.point))
    (n := screenBound (rowOf n.frac (sortPoints n.va.point n.vb.point n.vc.point).v2) -
      screenBound (rowOf n.frac (sortPoints n.va.point n.vb.point n.vc.point).v0))
    (i := screenBound (rowOf n.frac (sortPoints n.va.point n.vb.point n.vc.point).v0)) (s := s)
    (fun y u _ _ _ => by
      unfold rasterRow
      refine forRange_completes (P := fun _ => True) (fun x v _ _ _ => ?_) trivial
      unfold snapPixel
      rw [hn]
      obtain ⟨t, ht⟩ := pixel_zero_next x y (n.iter (x - n.va.x.toInt / 2 ^ n.frac) (y - n.va.y.toInt / 2 ^ n.frac))
        (n.unit0.iter (x - n.va.x.toInt / 2 ^ n.frac) (y - n.va.y.toInt / 2 ^ n.frac))
        (n.unit1.iter (x - n.va.x.toInt / 2 ^ n.frac) (y - n.va.y.toInt / 2 ^ n.frac)) v
      exact ⟨t, ht, trivial⟩) trivial
  obtain ⟨t, ht, -⟩ := this
  exact ⟨t, ht⟩

/-! ## Rows -/

/-- With the 10 bits of R292 every row below 1024 has a screen row of its own. -/
theorem rowsApart_of_low {s : State} {inside : Nat → Nat → Prop} (hb : s.config.constants.screenYBits = 10)
    (hy : ∀ x y, inside x y → y < 1024) : rowsApart s inside := by
  intro x y x' y' h h' e
  have := hy x y h
  have := hy x' y' h'
  unfold Machine.screenY flipY at e
  rw [hb] at e
  split at e
  · omega
  · exact e

end Sys2Proof.Machine
end

