-- ==== Sys2Proof/Tests/Slice0.lean ====
section
/-! SUPPORT. Tests of the model and witnesses for the statements. Expected values come from spec/95_test_vectors.md,
from the examples in the rules, or from the encoding tables; each test names its source. -/

namespace Sys2Proof.Tests

open Sys2Proof Sys2Proof.Machine

/-! ## Small states -/

/-- The next state of an outcome, if it is one. -/
def nextOf (o : Answer) : Option State :=
  match o with
  | .next t => some t
  | _ => none

/-- What an operation returned on the bus, where it completed. -/
def returned (o : Answer) : Option Word :=
  match o with
  | .next t => t.result
  | _ => none

/-- A fact about the next state; false where there is none. -/
def after (o : Answer) (p : State → Bool) : Bool :=
  match o with
  | .next t => p t
  | _ => false

theorem next_of_isSome {o : Answer} (h : (nextOf o).isSome = true) : ∃ t, o = .next t := by
  cases o with
  | next t => exact ⟨t, rfl⟩
  | fault r => simp [nextOf] at h
  | refused r => simp [nextOf] at h

/-- A state with some register slots (bank * 256 + index) set. -/
def withRegs (s : State) (l : List (Nat × Word)) : State :=
  l.foldl (fun s p => { s with regs := s.regs.write p.1 p.2 }) s

/-- 95's S0 under V2, with two units, the init gate open. -/
def v2 : State :=
  { State.reset with config := { Config.standard .v2 with ntmu := 2 }, initEnable := 1 }

/-- An access table that lets every register be written and read. -/
def openTable : Memory 4 := (List.range 256).map fun i => (i, 0xF#4)

/-- `v2` under that table (R31: ACCESS is a parameter). -/
def openAll : State := { v2 with config := { v2.config with access := some openTable } }

/-- 95's S1: rowpixels 640, buffer 1 at byte 0x96000, aux at 0x12C000, without its register words. -/
def s1 : State :=
  { State.reset with fbi := { State.reset.fbi with
      rgb1 := some 0x96000, auxoffs := some 0x12C000, xTiles := 10, rowpixels := 640 } }

/-- 95's program P2 before its triangle: fbzMode 0x200, fbzColorPath 2, color1 red, A(0,0) B(4,0) C(0,4). -/
def p2 : State :=
  { withRegs s1 [(0x44, 0x200), (0x41, 2), (0x52, 0xFF0000)] with
    fbi := { s1.fbi with vb := { x := 0x40, y := 0 }, vc := { x := 0, y := 0x40 } } }

/-- The 16-bit word of a buffer at byte 0 with 640 pixels a row. -/
def px (s : State) (x y : Nat) : Half := fbWord (2 * (640 * y + x)) s.fbi

/-- The default register map (R30, R40–R63), written out. -/
def plainMap : RegMap :=
  { index := List.finRange 256, fields := [], codes := [], chips := (List.range 16).map (BitVec.ofNat 4) }

/-- A register map (R9, D5) that exchanges color0 and color1 on the bus, the host's byte order of color0, the order
of fbzMode's depth functions (bits 7:5), and the chip-select bits of the two texture units. -/
def swapMap : RegMap :=
  { index := (List.finRange 256).map fun i => if i = 0x51 then 0x52 else if i = 0x52 then 0x51 else i,
    fields := [(0x51, (List.finRange 32).map fun j => j + 24 - 16 * Fin.ofNat 32 (j.val / 8))],
    codes := [{ register := 0x44, low := 5, width := 3, codes := [7, 6, 5, 4, 3, 2, 1, 0] },
      { register := 0xC0, low := 8, width := 4, codes := [15, 14, 13, 12, 11, 10, 9, 8, 7, 6, 5, 4, 3, 2, 1, 0] },
      { register := 0x86, low := 0, width := 1, codes := [1, 0] }],
    chips := [0, 1, 4, 5, 2, 3, 6, 7, 8, 9, 12, 13, 10, 11, 14, 15] }

/-! ## WellFormed: one ill-formed term for each check -/

theorem test_wf_regWr_plain_refused : (Instr.regWr 0x151 0).wf = false := by decide
theorem test_wf_regWr_high_index_refused : (Instr.regWr 0x1080 0).wf = false := by decide
theorem test_wf_regWr_reserved_accepted : (Instr.regWr 0x1E5 0).wf = true := by decide
theorem test_wf_regWr_alias_accepted : (Instr.regWr 0x1002 0).wf = true := by decide
theorem test_wf_regRd_computed_refused : (Instr.regRd 0x153).wf = false := by decide
theorem test_wf_regRd_plain_accepted : (Instr.regRd 0x151).wf = true := by decide
theorem test_wf_reset_statBits_refused :
    (Instr.reset { Config.standard .v1 with statBits := 33 } .reference).wf = false := by decide
theorem test_wf_reset_statBits_accepted :
    (Instr.reset { Config.standard .v1 with statBits := 32 } .reference).wf = true := by decide
theorem test_wf_reset_access_form_refused :
    (Instr.reset { Config.standard .v1 with access := some [(2, 1), (1, 1)] } .reference).wf = false := by decide
theorem test_wf_reset_access_range_refused :
    (Instr.reset { Config.standard .v1 with access := some [(256, 1)] } .reference).wf = false := by decide
theorem test_wf_reset_alias_refused :
    (Instr.reset { Config.standard .v1 with aliasMap := some [(64, 1)] } .reference).wf = false := by decide
theorem test_wf_reset_regMap_bits_refused :
    (Instr.reset { Config.standard .v1 with
      regMap := some { plainMap with fields := [(0x51, [1, 0])] } } .reference).wf = false := by decide
theorem test_wf_reset_regMap_code_count_refused :
    (Instr.reset { Config.standard .v1 with
      regMap := some { plainMap with codes := [{ register := 0x44, low := 5, width := 3, codes := [1, 0] }] } } .reference).wf = false := by decide
theorem test_wf_reset_regMap_code_repeat_refused :
    (Instr.reset { Config.standard .v1 with
      regMap := some { plainMap with codes := [{ register := 0x44, low := 5, width := 1, codes := [1, 1] }] } } .reference).wf = false := by decide
theorem test_wf_reset_regMap_code_range_refused :
    (Instr.reset { Config.standard .v1 with
      regMap := some { plainMap with codes := [{ register := 0x44, low := 5, width := 1, codes := [0, 2] }] } } .reference).wf = false := by decide
theorem test_wf_reset_regMap_code_place_refused :
    (Instr.reset { Config.standard .v1 with
      regMap := some { plainMap with codes := [{ register := 0x44, low := 31, width := 2, codes := [0, 1, 2, 3] }] } } .reference).wf = false := by decide
theorem test_wf_reset_regMap_code_overlap_refused :
    (Instr.reset { Config.standard .v1 with
      regMap := some { plainMap with codes := [{ register := 0x44, low := 5, width := 1, codes := [1, 0] },
        { register := 0x44, low := 4, width := 2, codes := [0, 1, 2, 3] }] } } .reference).wf = false := by decide
theorem test_wf_reset_regMap_chips_refused :
    (Instr.reset { Config.standard .v1 with
      regMap := some { plainMap with chips := [0, 1] } } .reference).wf = false := by decide
theorem test_wf_reset_regs_form_refused :
    (Instr.reset (Config.standard .v1) (.arbitrary { referenceValues with regs := [(5, 0)] })).wf = false := by decide
theorem test_wf_reset_regs_range_refused :
    (Instr.reset (Config.standard .v1) (.arbitrary { referenceValues with regs := [(1024, 1)] })).wf = false := by
  decide
theorem test_wf_reset_dac_refused :
    (Instr.reset (Config.standard .v1) (.arbitrary { referenceValues with dacReg := [(8, 1)] })).wf = false := by
  decide
theorem test_wf_reset_ram_refused :
    (Instr.reset (Config.standard .v1) (.arbitrary { referenceValues with fbRam := [(0x200000, 1)] })).wf =
      false := by decide
theorem test_wf_reset_fog_refused :
    (Instr.reset (Config.standard .v1) (.arbitrary { referenceValues with fogblend := [(64, 1)] })).wf =
      false := by decide
theorem test_wf_reset_fogdelta_refused :
    (Instr.reset (Config.standard .v1) (.arbitrary { referenceValues with fogdelta := [(64, 1)] })).wf =
      false := by decide
theorem test_wf_reset_unit_refused :
    (Instr.reset (Config.standard .v1) (.arbitrary { referenceValues with
      tmu1 := { referenceUnit with palette := [(256, 1)] } })).wf = false := by decide
theorem test_wf_reset_arbitrary_accepted :
    (Instr.reset (Config.standard .v1) (.arbitrary referenceValues)).wf = true := by decide
theorem test_decode_bad_config_rejected_by_name :
    decode (.reset { Config.standard .v1 with statBits := 33 } .reference) = .error .badResetConfig := by rfl
theorem test_decode_bad_values_rejected_by_name :
    decode (.reset (Config.standard .v1) (.arbitrary { referenceValues with regs := [(1024, 1)] })) =
      .error .badResetValues := by rfl

/-! ## Decode: the word of every row, offset bits 11:8 the chip-select 1, bits 7:0 the index (R101, R108) -/

theorem test_decode_rows_00 :
    [0xA5C3000000000100, 0xA5C3000100000101, 0xA5C3000200000102, 0xA5C3000300000103, 0xA5C3000400000104,
      0xA5C3000500000105, 0xA5C3000600000106, 0xA5C3000700000107, 0xA5C3000800000108, 0xA5C3000900000109,
      0xA5C3000A0000010A, 0xA5C3000B0000010B, 0xA5C3000C0000010C, 0xA5C3000D0000010D, 0xA5C3000E0000010E,
      0xA5C3000F0000010F, 0xA5C3001000000110, 0xA5C3001100000111, 0xA5C3001200000112, 0xA5C3001300000113,
      0xA5C3001400000114, 0xA5C3001500000115, 0xA5C3001600000116, 0xA5C3001700000117, 0xA5C3001800000118,
      0xA5C3001900000119, 0xA5C3001A0000011A, 0xA5C3001B0000011B, 0xA5C3001C0000011C, 0xA5C3001D0000011D,
      0xA5C3001E0000011E, 0xA5C3001F0000011F].map (decodeTableWord 64) =
    ([.status 1 0xA5C30000, .intrCtrl 1 0xA5C30001, .vertexAx 1 0xA5C30002, .vertexAy 1 0xA5C30003,
      .vertexBx 1 0xA5C30004, .vertexBy 1 0xA5C30005, .vertexCx 1 0xA5C30006, .vertexCy 1 0xA5C30007,
      .startR 1 0xA5C30008, .startG 1 0xA5C30009, .startB 1 0xA5C3000A, .startZ 1 0xA5C3000B,
      .startA 1 0xA5C3000C, .startS 1 0xA5C3000D, .startT 1 0xA5C3000E, .startW 1 0xA5C3000F,
      .dRdX 1 0xA5C30010, .dGdX 1 0xA5C30011, .dBdX 1 0xA5C30012, .dZdX 1 0xA5C30013, .dAdX 1 0xA5C30014,
      .dSdX 1 0xA5C30015, .dTdX 1 0xA5C30016, .dWdX 1 0xA5C30017, .dRdY 1 0xA5C30018, .dGdY 1 0xA5C30019,
      .dBdY 1 0xA5C3001A, .dZdY 1 0xA5C3001B, .dAdY 1 0xA5C3001C, .dSdY 1 0xA5C3001D, .dTdY 1 0xA5C3001E,
      .dWdY 1 0xA5C3001F] : List Instr).map some ∧
    [0xA5C3002000000120, 0xA5C3002100000121, 0xA5C3002200000122, 0xA5C3002300000123, 0xA5C3002400000124,
      0xA5C3002500000125, 0xA5C3002600000126, 0xA5C3002700000127, 0xA5C3002800000128, 0xA5C3002900000129,
      0xA5C3002A0000012A, 0xA5C3002B0000012B, 0xA5C3002C0000012C, 0xA5C3002D0000012D, 0xA5C3002E0000012E,
      0xA5C3002F0000012F, 0xA5C3003000000130, 0xA5C3003100000131, 0xA5C3003200000132, 0xA5C3003300000133,
      0xA5C3003400000134, 0xA5C3003500000135, 0xA5C3003600000136, 0xA5C3003700000137, 0xA5C3003800000138,
      0xA5C3003900000139, 0xA5C3003A0000013A, 0xA5C3003B0000013B, 0xA5C3003C0000013C, 0xA5C3003D0000013D,
      0xA5C3003E0000013E, 0xA5C3003F0000013F].map (decodeTableWord 64) =
    ([.triangleCMD 1 0xA5C30020, .reserved21, .fvertexAx 1 0xA5C30022, .fvertexAy 1 0xA5C30023,
      .fvertexBx 1 0xA5C30024, .fvertexBy 1 0xA5C30025, .fvertexCx 1 0xA5C30026, .fvertexCy 1 0xA5C30027,
      .fstartR 1 0xA5C30028, .fstartG 1 0xA5C30029, .fstartB 1 0xA5C3002A, .fstartZ 1 0xA5C3002B,
      .fstartA 1 0xA5C3002C, .fstartS 1 0xA5C3002D, .fstartT 1 0xA5C3002E, .fstartW 1 0xA5C3002F,
      .fdRdX 1 0xA5C30030, .fdGdX 1 0xA5C30031, .fdBdX 1 0xA5C30032, .fdZdX 1 0xA5C30033,
      .fdAdX 1 0xA5C30034, .fdSdX 1 0xA5C30035, .fdTdX 1 0xA5C30036, .fdWdX 1 0xA5C30037,
      .fdRdY 1 0xA5C30038, .fdGdY 1 0xA5C30039, .fdBdY 1 0xA5C3003A, .fdZdY 1 0xA5C3003B,
      .fdAdY 1 0xA5C3003C, .fdSdY 1 0xA5C3003D, .fdTdY 1 0xA5C3003E, .fdWdY 1 0xA5C3003F] : List Instr).map some ∧
    [0xA5C3004000000140, 0xA5C3004100000141, 0xA5C3004200000142, 0xA5C3004300000143, 0xA5C3004400000144,
      0xA5C3004500000145, 0xA5C3004600000146, 0xA5C3004700000147, 0xA5C3004800000148, 0xA5C3004900000149,
      0xA5C3004A0000014A, 0xA5C3004B0000014B, 0xA5C3004C0000014C, 0xA5C3004D0000014D, 0xA5C3004E0000014E,
      0xA5C3004F0000014F, 0xA5C3005000000150, 0xA5C3005100000151, 0xA5C3005200000152, 0xA5C3005300000153,
      0xA5C3005400000154, 0xA5C3005500000155, 0xA5C3005600000156, 0xA5C3005700000157, 0xA5C3005800000158,
      0xA5C3005900000159, 0xA5C3005A0000015A, 0xA5C3005B0000015B, 0xA5C3005C0000015C, 0xA5C3005D0000015D,
      0xA5C3005E0000015E, 0xA5C3005F0000015F].map (decodeTableWord 64) =
    ([.ftriangleCMD 1 0xA5C30040, .fbzColorPath 1 0xA5C30041, .fogMode 1 0xA5C30042,
      .alphaMode 1 0xA5C30043, .fbzMode 1 0xA5C30044, .lfbMode 1 0xA5C30045, .clipLeftRight 1 0xA5C30046,
      .clipLowYHighY 1 0xA5C30047, .nopCMD 1 0xA5C30048, .fastfillCMD 1 0xA5C30049,
      .swapbufferCMD 1 0xA5C3004A, .fogColor 1 0xA5C3004B, .zaColor 1 0xA5C3004C, .chromaKey 1 0xA5C3004D,
      .chromaRange 1 0xA5C3004E, .userIntrCMD 1 0xA5C3004F, .stipple 1 0xA5C30050, .color0 1 0xA5C30051,
      .color1 1 0xA5C30052, .fbiPixelsIn 1 0xA5C30053, .fbiChromaFail 1 0xA5C30054,
      .fbiZfuncFail 1 0xA5C30055, .fbiAfuncFail 1 0xA5C30056, .fbiPixelsOut 1 0xA5C30057,
      .fogTable0 1 0xA5C30058, .fogTable1 1 0xA5C30059, .fogTable2 1 0xA5C3005A, .fogTable3 1 0xA5C3005B,
      .fogTable4 1 0xA5C3005C, .fogTable5 1 0xA5C3005D, .fogTable6 1 0xA5C3005E, .fogTable7 1 0xA5C3005F] : List Instr).map some ∧
    [0xA5C3006000000160, 0xA5C3006100000161, 0xA5C3006200000162, 0xA5C3006300000163, 0xA5C3006400000164,
      0xA5C3006500000165, 0xA5C3006600000166, 0xA5C3006700000167, 0xA5C3006800000168, 0xA5C3006900000169,
      0xA5C3006A0000016A, 0xA5C3006B0000016B, 0xA5C3006C0000016C, 0xA5C3006D0000016D, 0xA5C3006E0000016E,
      0xA5C3006F0000016F, 0xA5C3007000000170, 0xA5C3007100000171, 0xA5C3007200000172, 0xA5C3007300000173,
      0xA5C3007400000174, 0xA5C3007500000175, 0xA5C3007600000176, 0xA5C3007700000177, 0xA5C3007800000178,
      0xA5C3007900000179, 0xA5C3007A0000017A, 0xA5C3007B0000017B, 0xA5C3007C0000017C, 0xA5C3007D0000017D,
      0xA5C3007E0000017E, 0xA5C3007F0000017F].map (decodeTableWord 64) =
    ([.fogTable8 1 0xA5C30060, .fogTable9 1 0xA5C30061, .fogTable10 1 0xA5C30062, .fogTable11 1 0xA5C30063,
      .fogTable12 1 0xA5C30064, .fogTable13 1 0xA5C30065, .fogTable14 1 0xA5C30066,
      .fogTable15 1 0xA5C30067, .fogTable16 1 0xA5C30068, .fogTable17 1 0xA5C30069,
      .fogTable18 1 0xA5C3006A, .fogTable19 1 0xA5C3006B, .fogTable20 1 0xA5C3006C,
      .fogTable21 1 0xA5C3006D, .fogTable22 1 0xA5C3006E, .fogTable23 1 0xA5C3006F,
      .fogTable24 1 0xA5C30070, .fogTable25 1 0xA5C30071, .fogTable26 1 0xA5C30072,
      .fogTable27 1 0xA5C30073, .fogTable28 1 0xA5C30074, .fogTable29 1 0xA5C30075,
      .fogTable30 1 0xA5C30076, .fogTable31 1 0xA5C30077, .cmdFifo78 1 0xA5C30078, .cmdFifo79 1 0xA5C30079,
      .cmdFifo7A 1 0xA5C3007A, .cmdFifo7B 1 0xA5C3007B, .cmdFifo7C 1 0xA5C3007C, .cmdFifo7D 1 0xA5C3007D,
      .cmdFifo7E 1 0xA5C3007E, .cmdFifo7F 1 0xA5C3007F] : List Instr).map some :=
  ⟨by decide +kernel, by decide +kernel, by decide +kernel, by decide +kernel⟩

theorem test_decode_rows_80 :
    [0xA5C3008000000180, 0xA5C3008100000181, 0xA5C3008200000182, 0xA5C3008300000183, 0xA5C3008400000184,
      0xA5C3008500000185, 0xA5C3008600000186, 0xA5C3008700000187, 0xA5C3008800000188, 0xA5C3008900000189,
      0xA5C3008A0000018A, 0xA5C3008B0000018B, 0xA5C3008C0000018C, 0xA5C3008D0000018D, 0xA5C3008E0000018E,
      0xA5C3008F0000018F, 0xA5C3009000000190, 0xA5C3009100000191, 0xA5C3009200000192, 0xA5C3009300000193,
      0xA5C3009400000194, 0xA5C3009500000195, 0xA5C3009600000196, 0xA5C3009700000197, 0xA5C3009800000198,
      0xA5C3009900000199, 0xA5C3009A0000019A, 0xA5C3009B0000019B, 0xA5C3009C0000019C, 0xA5C3009D0000019D,
      0xA5C3009E0000019E, 0xA5C3009F0000019F].map (decodeTableWord 64) =
    ([.fbiInit4 1 0xA5C30080, .vRetrace 1 0xA5C30081, .backPorch 1 0xA5C30082,
      .videoDimensions 1 0xA5C30083, .fbiInit0 1 0xA5C30084, .fbiInit1 1 0xA5C30085,
      .fbiInit2 1 0xA5C30086, .fbiInit3 1 0xA5C30087, .hSync 1 0xA5C30088, .vSync 1 0xA5C30089,
      .clutData 1 0xA5C3008A, .dacData 1 0xA5C3008B, .maxRgbDelta 1 0xA5C3008C, .hBorder 1 0xA5C3008D,
      .vBorder 1 0xA5C3008E, .borderColor 1 0xA5C3008F, .hvRetrace 1 0xA5C30090, .fbiInit5 1 0xA5C30091,
      .fbiInit6 1 0xA5C30092, .fbiInit7 1 0xA5C30093, .reserved94, .reserved95,
      .fbiSwapHistory 1 0xA5C30096, .fbiTrianglesOut 1 0xA5C30097, .sSetupMode 1 0xA5C30098,
      .sVx 1 0xA5C30099, .sVy 1 0xA5C3009A, .sARGB 1 0xA5C3009B, .sRed 1 0xA5C3009C, .sGreen 1 0xA5C3009D,
      .sBlue 1 0xA5C3009E, .sAlpha 1 0xA5C3009F] : List Instr).map some ∧
    [0xA5C300A0000001A0, 0xA5C300A1000001A1, 0xA5C300A2000001A2, 0xA5C300A3000001A3, 0xA5C300A4000001A4,
      0xA5C300A5000001A5, 0xA5C300A6000001A6, 0xA5C300A7000001A7, 0xA5C300A8000001A8, 0xA5C300A9000001A9,
      0xA5C300AA000001AA, 0xA5C300AB000001AB, 0xA5C300AC000001AC, 0xA5C300AD000001AD, 0xA5C300AE000001AE,
      0xA5C300AF000001AF, 0xA5C300B0000001B0, 0xA5C300B1000001B1, 0xA5C300B2000001B2, 0xA5C300B3000001B3,
      0xA5C300B4000001B4, 0xA5C300B5000001B5, 0xA5C300B6000001B6, 0xA5C300B7000001B7, 0xA5C300B8000001B8,
      0xA5C300B9000001B9, 0xA5C300BA000001BA, 0xA5C300BB000001BB, 0xA5C300BC000001BC, 0xA5C300BD000001BD,
      0xA5C300BE000001BE, 0xA5C300BF000001BF].map (decodeTableWord 64) =
    ([.sVz 1 0xA5C300A0, .sWb 1 0xA5C300A1, .sWtmu0 1 0xA5C300A2, .sS_W0 1 0xA5C300A3, .sT_W0 1 0xA5C300A4,
      .sWtmu1 1 0xA5C300A5, .sS_Wtmu1 1 0xA5C300A6, .sT_Wtmu1 1 0xA5C300A7, .sDrawTriCMD 1 0xA5C300A8,
      .sBeginTriCMD 1 0xA5C300A9, .v2xAA 1 0xA5C300AA, .v2xAB 1 0xA5C300AB, .v2xAC 1 0xA5C300AC,
      .v2xAD 1 0xA5C300AD, .v2xAE 1 0xA5C300AE, .v2xAF 1 0xA5C300AF, .v2xB0 1 0xA5C300B0,
      .v2xB1 1 0xA5C300B1, .v2xB2 1 0xA5C300B2, .v2xB3 1 0xA5C300B3, .v2xB4 1 0xA5C300B4,
      .v2xB5 1 0xA5C300B5, .v2xB6 1 0xA5C300B6, .v2xB7 1 0xA5C300B7, .v2xB8 1 0xA5C300B8,
      .v2xB9 1 0xA5C300B9, .v2xBA 1 0xA5C300BA, .v2xBB 1 0xA5C300BB, .v2xBC 1 0xA5C300BC,
      .v2xBD 1 0xA5C300BD, .v2xBE 1 0xA5C300BE, .v2xBF 1 0xA5C300BF] : List Instr).map some ∧
    [0xA5C300C0000001C0, 0xA5C300C1000001C1, 0xA5C300C2000001C2, 0xA5C300C3000001C3, 0xA5C300C4000001C4,
      0xA5C300C5000001C5, 0xA5C300C6000001C6, 0xA5C300C7000001C7, 0xA5C300C8000001C8, 0xA5C300C9000001C9,
      0xA5C300CA000001CA, 0xA5C300CB000001CB, 0xA5C300CC000001CC, 0xA5C300CD000001CD, 0xA5C300CE000001CE,
      0xA5C300CF000001CF, 0xA5C300D0000001D0, 0xA5C300D1000001D1, 0xA5C300D2000001D2, 0xA5C300D3000001D3,
      0xA5C300D4000001D4, 0xA5C300D5000001D5, 0xA5C300D6000001D6, 0xA5C300D7000001D7, 0xA5C300D8000001D8,
      0xA5C300D9000001D9, 0xA5C300DA000001DA, 0xA5C300DB000001DB, 0xA5C300DC000001DC, 0xA5C300DD000001DD,
      0xA5C300DE000001DE, 0xA5C300DF000001DF].map (decodeTableWord 64) =
    ([.textureMode 1 0xA5C300C0, .tLOD 1 0xA5C300C1, .tDetail 1 0xA5C300C2, .texBaseAddr 1 0xA5C300C3,
      .texBaseAddr_1 1 0xA5C300C4, .texBaseAddr_2 1 0xA5C300C5, .texBaseAddr_3_8 1 0xA5C300C6,
      .trexInit0 1 0xA5C300C7, .trexInit1 1 0xA5C300C8, .ncc0Entry0 1 0xA5C300C9, .ncc0Entry1 1 0xA5C300CA,
      .ncc0Entry2 1 0xA5C300CB, .ncc0Entry3 1 0xA5C300CC, .ncc0Entry4 1 0xA5C300CD,
      .ncc0Entry5 1 0xA5C300CE, .ncc0Entry6 1 0xA5C300CF, .ncc0Entry7 1 0xA5C300D0,
      .ncc0Entry8 1 0xA5C300D1, .ncc0Entry9 1 0xA5C300D2, .ncc0Entry10 1 0xA5C300D3,
      .ncc0Entry11 1 0xA5C300D4, .ncc1Entry0 1 0xA5C300D5, .ncc1Entry1 1 0xA5C300D6,
      .ncc1Entry2 1 0xA5C300D7, .ncc1Entry3 1 0xA5C300D8, .ncc1Entry4 1 0xA5C300D9,
      .ncc1Entry5 1 0xA5C300DA, .ncc1Entry6 1 0xA5C300DB, .ncc1Entry7 1 0xA5C300DC,
      .ncc1Entry8 1 0xA5C300DD, .ncc1Entry9 1 0xA5C300DE, .ncc1Entry10 1 0xA5C300DF] : List Instr).map some ∧
    [0xA5C300E0000001E0, 0xA5C300E1000001E1, 0xA5C300E2000001E2, 0xA5C300E3000001E3, 0xA5C300E4000001E4,
      0xA5C300E5000001E5, 0xA5C300E6000001E6, 0xA5C300E7000001E7, 0xA5C300E8000001E8, 0xA5C300E9000001E9,
      0xA5C300EA000001EA, 0xA5C300EB000001EB, 0xA5C300EC000001EC, 0xA5C300ED000001ED, 0xA5C300EE000001EE,
      0xA5C300EF000001EF, 0xA5C300F0000001F0, 0xA5C300F1000001F1, 0xA5C300F2000001F2, 0xA5C300F3000001F3,
      0xA5C300F4000001F4, 0xA5C300F5000001F5, 0xA5C300F6000001F6, 0xA5C300F7000001F7, 0xA5C300F8000001F8,
      0xA5C300F9000001F9, 0xA5C300FA000001FA, 0xA5C300FB000001FB, 0xA5C300FC000001FC, 0xA5C300FD000001FD,
      0xA5C300FE000001FE, 0xA5C300FF000001FF].map (decodeTableWord 64) =
    ([.ncc1Entry11 1 0xA5C300E0, .reservedE1, .reservedE2, .reservedE3, .reservedE4, .reservedE5,
      .reservedE6, .reservedE7, .reservedE8, .reservedE9, .reservedEA, .reservedEB, .reservedEC,
      .reservedED, .reservedEE, .reservedEF, .reservedF0, .reservedF1, .reservedF2, .reservedF3,
      .reservedF4, .reservedF5, .reservedF6, .reservedF7, .reservedF8, .reservedF9, .reservedFA,
      .reservedFB, .reservedFC, .reservedFD, .reservedFE, .reservedFF] : List Instr).map some :=
  ⟨by decide +kernel, by decide +kernel, by decide +kernel, by decide +kernel⟩

/-- The computed reads: the offset alone, chip-select 1 (30_encoding R101, opcode_table.json). -/
theorem test_decode_reads :
    decode (.regRd 0x100) = .ok .statusRead ∧
    decode (.regRd 0x186) = .ok .fbiInit2Read ∧
    decode (.regRd 0x153) = .ok .fbiPixelsInRead ∧
    decode (.regRd 0x154) = .ok .fbiChromaFailRead ∧
    decode (.regRd 0x155) = .ok .fbiZfuncFailRead ∧
    decode (.regRd 0x156) = .ok .fbiAfuncFailRead ∧
    decode (.regRd 0x157) = .ok .fbiPixelsOutRead ∧
    decode (.regRd 0x181) = .ok .vRetraceRead ∧
    decode (.regRd 0x190) = .ok .hvRetraceRead ∧
    decode (.regRd 0x196) = .ok .fbiSwapHistoryRead ∧
    decode (.regRd 0x197) = .ok .fbiTrianglesOutRead := by
  refine ⟨rfl, rfl, rfl, rfl, rfl, rfl, rfl, rfl, rfl, rfl, rfl⟩

/-- The other operations (R100): an aliased write, a plain read, the framebuffer, texture and PCI operations. -/
theorem test_decode_operations :
    decode (.regWr 0x1022 7) = .ok (.regWr 0x1022 7) ∧ decode (.regRd 0x151) = .ok (.regRd 0x151) ∧
    decode (.lfbWr 0x201 0x07E0F800 0xF) = .ok (.lfbWr 0x201 0x07E0F800 0xF) ∧
    decode (.lfbRd 0x201) = .ok (.lfbRd 0x201) ∧ decode (.texWr 0x80 0x44332211) = .ok (.texWr 0x80 0x44332211) ∧
    decode (.pciIniten 5) = .ok (.pciIniten 5) ∧
    decode (.reset (Config.standard .v2) .reference) = .ok (.reset (Config.standard .v2) .reference) := by
  refine ⟨rfl, rfl, rfl, rfl, rfl, rfl, rfl⟩

/-- startR with chip-select bit 0, data -1.0 in 12.12: offset bits 0001 0000 1000 (R101). -/
theorem test_decode_bits_startR :
    decode (.regWr (0b00000000000000000000_0001_00001000 : BitVec 32) 0x00FFF000) =
      .ok (.startR 1 0x00FFF000) := rfl
/-- fbzMode to the FBI: index 0100 0100. -/
theorem test_decode_bits_fbzMode :
    decode (.regWr (0b00000000000000000000_0001_01000100 : BitVec 32) 0x300) = .ok (.fbzMode 1 0x300) := rfl
/-- tLOD to both units: chip-select 0110, index 1100 0001. -/
theorem test_decode_bits_tLOD :
    decode (.regWr (0b00000000000000000000_0110_11000001 : BitVec 32) 0x104) = .ok (.tLOD 6 0x104) := rfl
/-- fbiInit3 to every bank: chip-select 0000, index 1000 0111. -/
theorem test_decode_bits_fbiInit3 :
    decode (.regWr (0b00000000000000000000_0000_10000111 : BitVec 32) 0x77C00000) =
      .ok (.fbiInit3 0 0x77C00000) := rfl
/-- sDrawTriCMD: index 1010 1000; a high offset bit is ignored (R101). -/
theorem test_decode_bits_sDraw :
    decode (.regWr (0b10000000000000000000_0001_10101000 : BitVec 32) 0) = .ok (.sDrawTriCMD 1 0) := rfl

/-- The side effect of each index in the table of effects is the one its meaning names. -/
theorem test_effect_of_commands :
    effectOf 0x20 = .triangle ∧ effectOf 0x40 = .triangle ∧ effectOf 0x48 = .nop ∧ effectOf 0x49 = .fastfill ∧
    effectOf 0x4A = .swap ∧ effectOf 0x4F = .stored ∧ effectOf 0x8B = .dac ∧ effectOf 0xA8 = .setupDraw ∧
    effectOf 0xA9 = .setupBegin ∧ effectOf 0x9B = .setupArgb ∧ effectOf 0x77 = .fogTable 31 ∧
    effectOf 0xD4 = .ncc 0 11 ∧ effectOf 0xD5 = .ncc 1 0 ∧ effectOf 0xE0 = .ncc 1 11 ∧
    effectOf 0x84 = .layoutReset ∧ effectOf 0x1F = .w .dy ∧ effectOf 0x2B = .paramFloat .z .start := by decide

/-! ## Register bus (95 section 2, 40_register_bus) -/

/-- 95 V1: color0 stores. -/
theorem test_color0_store : after (exec (.color0 1 0xCAFEF00D) State.reset)
    (fun t => decide (t.reg 0 0x51 = 0xCAFEF00D) && decide (t.reg 1 0x51 = 0)) = true := by decide
/-- 95 V2: chip-select 0 is every present bank. -/
theorem test_chip_select_all : after (exec (.color0 0 1) State.reset)
    (fun t => decide (t.reg 0 0x51 = 1 ∧ t.reg 1 0x51 = 1 ∧ t.reg 2 0x51 = 0)) = true := by decide
/-- 95 V3, V4: a write-only and a reserved register read all ones. -/
theorem test_sentinel_reads : returned (exec (.regRd 0xC0) State.reset) = some 0xFFFFFFFF ∧
    returned (exec (.regRd 0xE5) State.reset) = some 0xFFFFFFFF := by decide
/-- 95 V5, V6: intrCtrl is reserved under V1. -/
theorem test_intrCtrl_variants :
    after (exec (.intrCtrl 1 5) State.reset) (fun t => decide (t.reg 0 1 = 0)) = true ∧
    after (exec (.intrCtrl 1 5) v2) (fun t => decide (t.reg 0 1 = 5)) = true := by decide
/-- 95 G2, G3: the init gate; x_tiles = 10 gives a row pitch of 640. -/
theorem test_fbiInit1_gate :
    after (exec (.fbiInit1 1 0xA0) State.reset) (fun t => decide (t.reg 0 0x85 = 0x00201102)) = true ∧
    after (exec (.fbiInit1 1 0xA0) { State.reset with initEnable := 1 })
      (fun t => decide (t.reg 0 0x85 = 0xA0 ∧ t.fbi.rowpixels = 640)) = true := by decide
/-- 46 R380: pages 320 under V1, aux clamped to the last byte. -/
theorem test_fbiInit2_layout : after (exec (.fbiInit2 1 0x000A0000) { State.reset with initEnable := 1 })
    (fun t => decide (t.fbi.rgb1 = some 0x140000 ∧ t.fbi.rgb2 = none ∧ t.fbi.auxoffs = some 0x1FFFFF)) = true := by
  decide
/-- 46 R381: yorigin 479. -/
theorem test_fbiInit3_yorigin : after (exec (.fbiInit3 1 0x77C00000) { State.reset with initEnable := 1 })
    (fun t => decide (t.fbi.yorigin = 479)) = true := by decide
/-- 46 R382: a FIFO of pages 0x1F0 to 0x3FF is clamped to 16 pages. -/
theorem test_fbiInit4_fifo :
    after (exec (.fbiInit4 1 0x0FFDF000) { withRegs State.reset [(0x84, 0x2000)] with initEnable := 1 })
      (fun t => decide (t.fbi.fifoWords = 16384)) = true := by decide
/-- 40 R151: nopCMD bit 0 clears the statistics registers. -/
theorem test_nopCMD : after (exec (.nopCMD 1 1) (withRegs State.reset [(0x53, 7), (0x97, 3)]))
    (fun t => decide (t.reg 0 0x53 = 0 ∧ t.reg 0 0x97 = 3)) = true := by decide
/-- 95 G5: DAC register 3 gets 0x41, and a read request latches it. -/
theorem test_dacData :
    after (exec (.dacData 1 0x341) State.reset) (fun t => decide (t.dac.reg.read 3 = 0x41)) = true ∧
    after (exec (.dacData 1 0xB00) { State.reset with dac := { reg := [(3, 0x41)], readResult := 0 } })
      (fun t => decide (t.dac.readResult = 0x41)) = true := by decide
/-- 40 R142, R143, R146: the examples of the rules. -/
theorem test_iterator_examples :
    after (exec (.vertexAx 1 0x45) State.reset) (fun t => decide (t.fbi.va.x = 69)) = true ∧
    after (exec (.startR 1 0x00FFF000) State.reset) (fun t => decide (t.fbi.r.start.toInt = -4096)) = true ∧
    after (exec (.startW 1 0x00010000) State.reset) (fun t => decide (t.fbi.w.start = 0x100000000)) = true := by
  decide
/-- 40 R148: 1.0 in 12.12, and the example of 95 F: -1.5 as a 12.4 vertex is -24. -/
theorem test_float_examples :
    after (exec (.fstartR 1 0x3F800000) State.reset) (fun t => decide (t.fbi.r.start = 4096)) = true ∧
    after (exec (.fvertexAx 1 0xBFC00000) State.reset) (fun t => decide (t.fbi.va.x.toInt = -24)) = true := by decide
/-- 40 R157: the example of the rule. -/
theorem test_fogTable : after (exec (.fogTable0 1 0x40201008) State.reset)
    (fun t => decide (t.fbi.fogdelta = [(0, 0x08), (1, 0x20)] ∧ t.fbi.fogblend = [(0, 0x10), (1, 0x40)])) = true := by
  decide
/-- 41 R191: n = 5, data 0x80FF8040 is palette entry 1, and no slot is stored. -/
theorem test_palette_write : after (exec (.ncc0Entry5 2 0x80FF8040) State.reset)
    (fun t => decide (t.tmu0.palette = [(1, 0xFFFF8040)] ∧ t.reg 1 0xCE = 0)) = true := by decide
/-- 46 R386, R387: two buffers exchange, and the example of the history. -/
theorem test_swapbufferCMD :
    after (exec (.swapbufferCMD 1 0) { withRegs State.reset [(0x96, 0x12)] with
      fbi := { State.reset.fbi with swapCount := 3 } })
      (fun t => decide (t.fbi.frontbuf = 1 ∧ t.fbi.backbuf = 0 ∧ t.reg 0 0x96 = 0x123)) = true := by decide
/-- 10 R62 and 95 W2: status, bit 6 apart. -/
theorem test_status_word : statusValue State.reset.fbi false = 0x0FFFF03F := by decide
/-- 40 R160: fbiInit2 reads the DAC result under init_enable[2]. -/
theorem test_fbiInit2_read :
    returned (exec .fbiInit2Read State.reset) = some 0x80000040 ∧
    returned (exec .fbiInit2Read { State.reset with initEnable := 4, dac := { reg := [], readResult := 0x41 } }) =
      some 0x41 := by decide
/-- 40 R147: sARGB. -/
theorem test_sARGB : after (exec (.sARGB 1 0xFF800100) v2)
    (fun t => decide (t.reg 0 0x9F = 0x437F0000 ∧ t.reg 0 0x9C = 0x43000000 ∧ t.reg 0 0x9D = 0x3F800000 ∧
      t.reg 0 0x9E = 0)) = true := by decide

/-! ## Textures (95 section 4, 41_texture_unit) -/

/-- 95 T4, T5, T6: width mask, offsets of 8-bit and 16-bit formats. -/
theorem test_lod_offsets :
    (recomputeFrom (Config.standard .v1) 0 0 0 0 Tmu.reset).lodoffset =
      [(1, 0x10000), (2, 0x14000), (3, 0x15000), (4, 0x15400), (5, 0x15500), (6, 0x15540), (7, 0x15550),
       (8, 0x15554)] ∧
    (recomputeFrom (Config.standard .v1) 0xA00 0 0 0 Tmu.reset).lodoffset.read 3 = 0x2A000 ∧
    (recomputeFrom (Config.standard .v1) 0 0x00400000 0 0 Tmu.reset).wmask = 0x3F := by decide
/-- 95 T1, T2, T3: LOD limits, bias, mask. -/
theorem test_lod_limits :
    (recomputeFrom (Config.standard .v1) 0 0x104 0 0 Tmu.reset).lodmax = 0x100 ∧
    (recomputeFrom (Config.standard .v1) 0 0x3F000 0 0 Tmu.reset).lodbias.toInt = -64 ∧
    (recomputeFrom (Config.standard .v1) 0 0x80000 0 0 Tmu.reset).lodmask = 0x155 := by decide
/-- 95 T9 to T12: the static tables. -/
theorem test_static_tables :
    lookupWord .standard Tmu.reset .rgb332 0xB3 = 0xFFB692FF ∧
    lookupWord .standard Tmu.reset .rgb565 0x1234 = 0xFF1045A5 ∧
    lookupWord .standard Tmu.reset .argb4444 0xF0A5 = 0xFF00AA55 ∧
    lookupWord .standard Tmu.reset .ai44 0x3C = 0x33CCCCCC := by decide
/-- 95 T13, T14: uploads of four 8-bit and of two 16-bit texels. -/
theorem test_texture_upload :
    after (exec (.texWr 0x80 0x44332211) State.reset)
      (fun t => decide (t.tmu0.ram = [(0x100, 0x11), (0x101, 0x22), (0x102, 0x33), (0x103, 0x44)])) = true ∧
    after (exec (.texWr 1 0x07E0F800) (withRegs State.reset [(0x1C0, 0xA00)]))
      (fun t => decide (t.tmu0.ram = [(5, 0xF8), (6, 0xE0), (7, 0x07)])) = true := by decide
/-- 95 T16, T17: a bad LOD and an absent unit answer status 0 and store nothing. -/
theorem test_texture_drops :
    after (exec (.texWr 0x48000 1) State.reset) (fun t => decide (t.tmu0.ram = [] ∧ t.result = some 0)) = true ∧
    after (exec (.texWr 0x80000 1) State.reset) (fun t => decide (t.tmu1.ram = [] ∧ t.result = some 0)) = true := by
  decide
/-- 95 T20, T21: bilinear. -/
theorem test_bilinear :
    bilinear 8 0xFF0000FF 0xFF000000 0xFF0000FF 0xFF000000 0x80 0 = 0xFF00007F ∧
    bilinear 8 0 0xFFFFFFFF 0 0xFFFFFFFF 0x80 0x80 = 0x7F7F7F7F := by decide
/-- 95 T23: an NCC entry with its red clamped. -/
theorem test_ncc_entry : nccEntry .standard { Ncc.zero with y := [(15, 0xF0)], ir := [(0, 0x20)] } 0xF0 = 0xFFFFF0F0 := by
  decide

/-! ## Triangles (95 section 5, 42_setup_engine) -/

/-- 95 P2, TR1: ten pixels, all counted in and out. -/
theorem test_triangleCMD : after (exec (.triangleCMD 1 0) p2)
    (fun t => decide (t.reg 0 0x53 = 10 ∧ t.reg 0 0x57 = 10 ∧ t.reg 0 0x97 = 1 ∧ px t 3 0 = 0xF800 ∧
      px t 1 1 = 0xF800 ∧ px t 3 1 = 0)) = true := by decide +kernel
/-- 95 TR13: a reserved draw buffer draws and counts nothing. -/
theorem test_ftriangleCMD_reserved_buffer : after (exec (.ftriangleCMD 1 0) (withRegs p2 [(0x44, 0xC200)]))
    (fun t => decide (t.fbi.ram = [] ∧ t.reg 0 0x97 = 0)) = true := by decide +kernel
/-- 95 TR11: the sub-pixel step. -/
theorem test_subpixel : (subpixelAdjust 0 { State.reset with fbi := { State.reset.fbi with
    va := { x := 4, y := 4 }, r := { start := 0, dx := 0x10000, dy := 0 } } }).fbi.r.start = 0x4000 := by decide
/-- 95 TR23: three vertices at the origin: a zero-area triangle is counted and draws nothing. -/
theorem test_sDrawTriCMD : after (exec (.sDrawTriCMD 1 0) { v2 with fbi := { v2.fbi with sverts := 2 } })
    (fun t => decide (t.fbi.sverts = 3 ∧ t.reg 0 0x97 = 1 ∧ t.fbi.ram = [])) = true := by decide +kernel
/-- 42 R240: sBeginTriCMD sets the count to 1. -/
theorem test_sBeginTriCMD : after (exec (.sBeginTriCMD 1 0) (withRegs v2 [(0x99, 0x40800000)]))
    (fun t => decide (t.fbi.sverts = 1 ∧ t.fbi.svert0.x = 0x40800000 ∧ t.fbi.svert2.x = 0x40800000)) = true := by
  decide
/-- 42 R245: the red gradient of the example, vertices (0,0,0), (4,0,64), (0,4,0). -/
theorem test_setup_gradient :
    setupAttr 32 4096 { v2.fbi with
      svert0 := SetupVertex.zero,
      svert1 := { SetupVertex.zero with x := 0x40800000, r := 0x42800000 },
      svert2 := { SetupVertex.zero with y := 0x40800000 } } SetupVertex.r =
      { start := 0, dx := 65536, dy := 0 } := by decide
/-- 95 TR24, TR25: conversions. -/
theorem test_cvt :
    floatToInt 16 (floatMul (floatOfBits 0x408A0000) (floatConst 16)) = 69 ∧
    (floatToInt 32 (floatMul (floatOfBits 0xBF000000) (floatConst 4096))).toInt = -2048 ∧
    floatToInt 16 (floatMul (floatOfBits 0x45800000) (floatConst 16)) = 32767 ∧
    floatToInt 32 (floatOfBits 0x7FC00000) = 0 := by decide

/-! ## Pixels (95 section 7, 44_pixel_pipeline) -/

/-- 44 R293, R294: the examples of the stipple rules. -/
theorem test_stipple :
    (stippleRotate (withRegs State.reset [(0x44, 4), (0x50, 0x40000000)])).reg 0 0x50 = 0x80000000 ∧
    stippleBit .standard 0 0 = 7 ∧ stippleBit .standard 7 3 = 24 := by decide
/-- 95 PF1, PF2: the clamped conversions. -/
theorem test_clamps :
    clamp8 .standard true 0x00100000 = 0xFF ∧ clamp8 .standard true 0xFFFFF000 = 0 ∧
    clamp8 .standard false 0x00200000 = 0xFF ∧
    clampedZ .standard true 0x10000000 = 0xFFFF ∧ clampedZ .standard false 0x7FFFF000 = 0xFFFF := by decide
/-- 44 R295, R318: rgbzw_clamp clamps and cca_localselect 3 gives the clamped W under V1 too; with the V2 marks of
10 R40, which a RESET may take, V1 wraps and gives 0. -/
theorem test_clamp_variants :
    let s := withRegs State.reset [(0x41, 0x10000060)]
    let marked := { s with config := { s.config with
      constants := { Constants.standard with clampV1 := false, localWV1 := false } } }
    let it : PixelIter := { a := 0, r := 0, g := 0, b := 0, z := 0, w := 0x12300000000 }
    let none : Argb := { a := 0, r := 0, g := 0, b := 0 }
    wrapIterators s = false ∧ localAlpha s 0x60 none none it = 0xFF ∧
    wrapIterators marked = true ∧ localAlpha marked 0x60 none none it = 0 ∧
    wrapIterators (withRegs v2 [(0x41, 0x10000000)]) = false := by decide
/-- 95 PF3, PF4: the floating W. -/
theorem test_wfloat :
    [0x100000000, 0x80000000, 0xFFFF, 0x40000000, 0xC0000000, 0x10000].map (wfloat .standard) =
      [0, 0x1000, 0xFFFF, 0x2000, 0x800, 0x10000] := by decide
/-- 95 PF5, PF6: the compare codes. -/
theorem test_cmp :
    (List.range 8).map (fun f => cmp f 5 5) = [false, false, true, true, false, false, true, true] ∧
    (List.range 8).map (fun f => cmp f 4 5) = [false, true, false, true, false, true, false, true] := by decide
/-- 44 R313: the detail example. -/
theorem test_detail : detailFactor .standard { Tmu.reset with detailbias := 0x100, detailscale := 2, detailmax := 0xFF } 0 = 4 := by
  decide
/-- 95 PF7, PF8: chroma ranges under V2. -/
theorem test_chroma :
    chromaPass (withRegs v2 [(0x44, 2), (0x4D, 0x101010), (0x4E, 0x10202020)])
      { a := 0, r := 0x18, g := 0x18, b := 0x18 } = false ∧
    chromaPass (withRegs v2 [(0x44, 2), (0x4D, 0x101010), (0x4E, 0x10202020)])
      { a := 0, r := 0x18, g := 0x30, b := 0x18 } = true := by decide
/-- 95 PF12: the fog table factor. -/
theorem test_fog_table : fogTableFactor { State.reset with fbi := { State.reset.fbi with
    fogblend := [(8, 0x40)], fogdelta := [(8, 0x10)] } } 0 0 0 0x23FC = 0x43 := by decide
/-- 44 R332: the fog example. -/
theorem test_fog_example : fog (withRegs State.reset [(0x42, 0x9), (0x4B, 0xFF)]) 0 0 0 0 0
    { a := 0x7F, r := 0, g := 0, b := 0 } { a := 0, r := 0, g := 0, b := 0 } =
    { a := 0, r := 0, g := 0, b := 127 } := by decide
/-- R19: a field of another width reads as a number, its further bits above the run. -/
theorem test_field_width : readField { low := 14, width := 2, high := [22, 5] } 0x404020 = 13 ∧
    readField { low := 14, width := 1, high := [] } 0xC000 = 1 := by decide
/-- 95 PX24: one plus one saturates. -/
theorem test_blend : blend .standard .spec 0x4410
    { a := 0, r := 0xFF, g := 0, b := 0 } { a := 0xFF, r := 0xF8, g := 0, b := 0 } { a := 0, r := 0, g := 0, b := 0 } = { a := 0, r := 0xFF, g := 0, b := 0 } := by decide
/-- 95 PF17 and PX11: dither. -/
theorem test_dither : dither565 .standard 0x300 0xFF 0 0 1 0 = 0xF800 ∧
    dither565 .standard 0x300 0x80 0x80 0x80 0 0 = 0x7BEF ∧
    dither565 .standard 0x300 0x80 0x80 0x80 1 0 = 0x8410 := by decide
/-- 95 W6, PF18: the reciprocal and logarithm of 3.0 and of 0. -/
theorem test_reciplog : fastRecipLog (Config.standard .v1) 0x300000000 = { recip := 0x2AAA, log := -406 } ∧
    fastRecipLog (Config.standard .v1) 0 = { recip := 0x7FFFFFFF, log := 256000 } := by decide +kernel

/-! ## Fastfill and the LFB (95 sections 7 and 8) -/

/-- 95 W7 on a 2 by 2 rectangle. -/
theorem test_fastfillCMD :
    after (exec (.fastfillCMD 1 0) (withRegs s1 [(0x46, 2), (0x47, 2), (0x44, 0x200), (0x52, 0xFF0000)]))
      (fun t => decide (px t 0 0 = 0xF800 ∧ px t 1 1 = 0xF800 ∧ px t 2 0 = 0 ∧ t.reg 0 0x57 = 4)) = true := by
  decide +kernel
/-- 46 R384 and 10 R47: an aux buffer of alpha planes takes zaColor[15:0], or zaColor[31:24] where RESET says so. -/
theorem test_fastfill_alpha_plane :
    let s := withRegs s1 [(0x44, 0x40400), (0x4C, 0xAB001234)]
    fillAux s = 0x1234 ∧
    fillAux { s with config := { s.config with
      constants := { Constants.standard with fillAlphaPlane := true } } } = 0x00AB := by decide
/-- 45 R368: the example of raw mode. -/
theorem test_lfbWr : after (exec (.lfbWr 0x201 0x07E0F800 0xF) (withRegs s1 [(0x44, 0x200)]))
    (fun t => decide (px t 2 1 = 0xF800 ∧ px t 3 1 = 0x07E0 ∧ t.reg 0 0x57 = 2)) = true := by decide
/-- 45 R368: byte mask 0x3 stores pixel 0 alone. -/
theorem test_lfbWr_mask : after (exec (.lfbWr 0x201 0x07E0F800 0x3) (withRegs s1 [(0x44, 0x200)]))
    (fun t => decide (px t 2 1 = 0xF800 ∧ px t 3 1 = 0 ∧ t.reg 0 0x57 = 1)) = true := by decide
/-- 45 R371: the example of the read, plain and with word_swap_reads. -/
theorem test_lfbRd :
    returned (exec (.lfbRd 0x201) { s1 with fbi := { s1.fbi with
      ram := [(0x505, 0xF8), (0x506, 0xE0), (0x507, 0x07)] } }) = some 0x07E0F800 ∧
    returned (exec (.lfbRd 0x201) { withRegs s1 [(0x45, 0x8000)] with fbi := { s1.fbi with
      ram := [(0x505, 0xF8), (0x506, 0xE0), (0x507, 0x07)] } }) = some 0xF80007E0 := by decide

/-! ## The machine -/

/-- A step takes the operation from the queue. -/
theorem test_step : after (step { State.reset with pending := [.regWr 0x151 7, .regRd 0x51] })
    (fun t => decide (t.reg 0 0x51 = 7 ∧ t.pending = [.regRd 0x51])) = true := by decide
/-- R9: under a REGMAP a write at the bus index of color1 reaches color0 with its bytes reversed, and a read of it
gives the host its own word back. -/
theorem test_step_regMap :
    after (step { State.reset with config := { State.reset.config with regMap := some swapMap },
                                   pending := [.regWr 0x152 0x11223344] })
      (fun t => decide (t.reg 0 0x51 = 0x44332211 ∧ t.reg 0 0x52 = 0)) = true ∧
    returned (step { withRegs State.reset [(0x51, 0x44332211)] with
      config := { State.reset.config with regMap := some swapMap }, pending := [.regRd 0x52] }) = some 0x11223344 := by
  decide +kernel
/-- R9: and the host's code 1 of the depth function is the default code 6, its chip-select 2 the second unit. -/
theorem test_step_regMap_codes :
    after (step { v2 with config := { v2.config with regMap := some swapMap }, pending := [.regWr 0x244 0x30] })
      (fun t => decide (t.reg 2 0x44 = 0xD0 ∧ t.reg 1 0x44 = 0)) = true ∧
    returned (step { withRegs v2 [(0x44, 0xD0)] with
      config := { v2.config with regMap := some swapMap }, pending := [.regRd 0x44] }) = some 0x30 := by
  decide +kernel
/-- R139, R160, R409: no map touches the all-ones of textureMode, which has no R, or the DAC byte that fbiInit2
reads with init_enable[2] set; fbiInit2's own word is recoded. -/
theorem test_step_regMap_no_word :
    let s := { v2 with
      config := { v2.config with regMap := some swapMap }, dac := { reg := [], readResult := 0x5A } }
    returned (step { s with pending := [.regRd 0xC0] }) = some 0xFFFFFFFF ∧
    returned (step { s with initEnable := 4, pending := [.regRd 0x86] }) = some 0x5A ∧
    returned (step { withRegs s [(0x86, 0x80000040)] with pending := [.regRd 0x86] }) = some 0x80000041 := by
  decide +kernel
/-- R31: a supplied ACCESS that lets index 0xE5 be written and read makes a register of it; the default drops. -/
theorem test_step_access :
    after (step { openAll with pending := [.regWr 0x1E5 7] }) (fun t => decide (t.reg 0 0xE5 = 7)) = true ∧
    after (step { State.reset with pending := [.regWr 0x1E5 7] }) (fun t => decide (t.reg 0 0xE5 = 0)) = true := by
  decide +kernel
/-- The host's fetch word is run by the next step. -/
theorem test_withFetchWord : after (step (State.reset.withFetchWord 64 0x00FFF00000000108))
    (fun t => decide (t.fbi.r.start.toInt = -4096)) = true := by decide
/-- 70 R420–R422: RESET with State.reset's parameters gives State.reset, and a bad size is fatal. -/
theorem test_reset :
    after (exec (.reset (Config.standard .v1) .reference) State.reset) (fun t => decide (t = State.reset)) = true ∧
    after (exec (.reset { Config.standard .v1 with fbmemBytes := 0x300000 } .reference) State.reset)
      (fun t => decide (t.fatal = some .badMemorySize)) = true := by decide
/-- 30 R107. -/
theorem test_pciIniten : after (exec (.pciIniten 5) State.reset) (fun t => decide (t.initEnable = 5)) = true := by
  decide


/-! ## Witnesses: a concrete state and operands that meet the hypotheses of each statement -/

/-- `Accepts` from one evaluation. -/
theorem accepts_of {s : State} {i : Nat}
    (h : (decide (s.fatal = none) && s.regs.wf && writable s.config i && (!isFbiInit i || bit s.initEnable 0)) = true) :
    Accepts s i := by
  simp only [Bool.and_eq_true, Bool.or_eq_true, Bool.not_eq_true', decide_eq_true_eq] at h
  exact ⟨h.1.1.1, h.1.1.2, h.1.2, fun hi => h.2.resolve_left (by simp [hi])⟩

/-- Under the open table every index accepts a write. -/
theorem open_accepts : ∀ i, i < 256 → Accepts openAll i := by
  intro i hi
  have h : ∀ i : Fin 256,
      (decide (openAll.fatal = none) && openAll.regs.wf && writable openAll.config i.val &&
        (!isFbiInit i.val || bit openAll.initEnable 0)) = true := by decide +kernel
  exact accepts_of (h ⟨i, hi⟩)

/-- A V2 state ready to draw: buffers of 640 pixels a row, `p2`'s registers and vertices, both units off. -/
def ready : State := { p2 with config := openAll.config, initEnable := 1 }

/-- `ready` with texturing on: fbzColorPath bit 27, unit 0 and unit 1 at their reset registers, dirty. -/
def textured : State := withRegs ready [(0x41, 0x08000002)]

/-- `textured` with a LOD maximum of 8.75 in unit 0 and a LOD minimum of 8.0 in unit 1. -/
def sampled : State := withRegs textured [(0x1C1, 35 <<< 6), (0x2C1, 32)]

theorem test_witness_DecodeInvertsEncode :
    (Instr.reset { Config.standard .v1 with statBits := 32 } (.arbitrary referenceValues)).wf = true ∧
      (Instr.regWr 0x1002 0xFFFFFFFF).wf = true ∧ (Instr.startR 15 0xFFFFFFFF).wf = true := by decide

theorem test_witness_DecodeIsTotalAndWellFormed :
    (∀ config policy, BusCycle.regWr 0xFFFFFFFF 0 ≠ .reset config policy) ∧
      decode (.reset { Config.standard .v1 with statBits := 32 } .reference) =
        .ok (.reset { Config.standard .v1 with statBits := 32 } .reference) := by
  exact ⟨(by intro c q h; cases h), rfl⟩

theorem test_witness_StepRunsTheDecodedOperation :
    ({ State.reset with pending := [.regWr 0x151 7, .regRd 0x51] } : State).pending = .regWr 0x151 7 :: [.regRd 0x51] ∧
      State.reset.config.regMap = none ∧ State.reset.config.access = none ∧
      decode (hostCycle State.reset (.regWr 0x151 7)) = .ok (.color0 1 7) ∧ decode (.regWr 0x151 7) = .ok (.color0 1 7) ∧
      decode (hostCycle State.reset (.reset { Config.standard .v1 with statBits := 33 } .reference)) =
        .error .badResetConfig ∧
      State.reset.pending = [] := by refine ⟨rfl, rfl, rfl, rfl, rfl, rfl, rfl⟩

/-- Every index of the list, in both variants' registers; 0x00 and 0xC8 are its ends. -/
theorem test_witness_PlainRegistersAreStored :
    Accepts openAll 0x00 ∧ Accepts openAll 0x51 ∧ Accepts openAll 0xBF ∧ Accepts openAll 0xC8 ∧ Accepts State.reset 0x51 :=
  ⟨open_accepts _ (by decide), open_accepts _ (by decide), open_accepts _ (by decide),
    open_accepts _ (by decide), accepts_of (by decide)⟩

theorem test_witness_ReadOnlyAndReservedWritesDoNothing : v2.fatal = none ∧ v2.config.access = none := by decide

/-- A register with no write right (status), and fbiInit3 with the gate closed. -/
theorem test_witness_GatedWritesChangeNothing :
    decode (.regWr (regOffset 0x00 1) 7) = .ok (.status 1 7) ∧ decode (.regWr (regOffset 0x87 1) 7) = .ok (.fbiInit3 1 7) ∧
      State.reset.fatal = none ∧ writable State.reset.config 0x00 = false ∧ isFbiInit 0x87 = true ∧
      bit State.reset.initEnable 0 = false := by
  exact ⟨rfl, rfl, by decide, by decide, by decide, by decide⟩

theorem test_witness_UnwritableNeverChangesReads :
    decode (.regWr (regOffset 0x00 1) 7) = .ok (.status 1 7) ∧ writable State.reset.config 0x00 = false ∧
      (∃ t, exec (.status 1 7) State.reset = .next t) ∧ decode (.regRd 0x51) = .ok (.regRd 0x51) :=
  ⟨rfl, by decide, next_of_isSome (by decide), rfl⟩

/-- color0 under V1, and fbiInit2 with no DAC read switched in. -/
theorem test_witness_ReadWriteRegistersRoundTrip :
    State.reset.config.access = none ∧ readable State.reset.config 0x51 = true ∧ Accepts State.reset 0x51 ∧
      selected State.reset.config 1 0 = true ∧ decode (.regWr (regOffset 0x51 1) 7) = .ok (.color0 1 7) ∧
      decode (.regRd (regOffset 0x51 2)) = .ok (.regRd 0x251) ∧
      v2.config.access = none ∧ readable v2.config 0x86 = true ∧ Accepts v2 0x86 ∧ selected v2.config 0 0 = true ∧
      bit v2.initEnable v2.config.constants.dacReadBit.val = false ∧ decode (.regWr (regOffset 0x86 0) 7) = .ok (.fbiInit2 0 7) ∧
      decode (.regRd (regOffset 0x86 0)) = .ok .fbiInit2Read :=
  ⟨rfl, by decide, accepts_of (by decide), by decide, rfl, rfl, rfl, by decide, accepts_of (by decide), by decide, by decide,
    rfl, rfl⟩

theorem test_witness_VertexWritesSetTheCoordinate : Accepts State.reset 0x02 ∧ Accepts State.reset 0x07 :=
  ⟨accepts_of (by decide), accepts_of (by decide)⟩

theorem test_witness_ColourAndDepthWritesSetTheIterator :
    Accepts State.reset 0x08 ∧ Accepts State.reset 0x1C ∧ Accepts State.reset 0x0B ∧ Accepts State.reset 0x1B :=
  ⟨accepts_of (by decide), accepts_of (by decide), accepts_of (by decide), accepts_of (by decide)⟩

theorem test_witness_FloatVertexAndIteratorWritesConvert :
    Accepts State.reset 0x22 ∧ Accepts State.reset 0x27 ∧ Accepts State.reset 0x28 ∧ Accepts State.reset 0x3C :=
  ⟨accepts_of (by decide), accepts_of (by decide), accepts_of (by decide), accepts_of (by decide)⟩

theorem test_witness_TextureCoordinateWritesSetTheUnits :
    Accepts State.reset 0x0D ∧ Accepts State.reset 0x1E ∧ Accepts State.reset 0x2D ∧ Accepts State.reset 0x3E :=
  ⟨accepts_of (by decide), accepts_of (by decide), accepts_of (by decide), accepts_of (by decide)⟩

theorem test_witness_WWritesSetEverySelectedSubChip :
    Accepts State.reset 0x0F ∧ Accepts State.reset 0x1F ∧ Accepts State.reset 0x2F ∧ Accepts State.reset 0x3F :=
  ⟨accepts_of (by decide), accepts_of (by decide), accepts_of (by decide), accepts_of (by decide)⟩

/-- Exponents where the clauses meet: with 12 fraction bits e = -1, 0, 31 and 32 have codes 137, 138, 169, 170. -/
theorem test_witness_FloatDecodingTruncatesTheMagnitude :
    (field (0x44FFFFFF : Word) 23 8 : Int) - 150 + 12 = -1 ∧ (field (0x45000000 : Word) 23 8 : Int) - 150 + 12 = 0 ∧
      (field (0x54800000 : Word) 23 8 : Int) - 150 + 12 = 31 ∧ (field (0x55000000 : Word) 23 8 : Int) - 150 + 12 = 32 ∧
      floatToFixed 32 12 0x44FFFFFF = 0x7FFFFF ∧ floatToFixed 32 12 0x45000000 = 0x800000 ∧
      floatToFixed 32 12 0x54800000 = 0 ∧ floatToFixed 32 12 0x55000000 = 0x7FFFFFFF := by decide

theorem test_witness_FogTableWritesFillTwoEntries :
    Accepts State.reset (0x58 + 0) ∧ Accepts State.reset (0x58 + 31) ∧ State.reset.fbi.fogdelta.wf = true ∧
      State.reset.fbi.fogblend.wf = true ∧ selected State.reset.config 1 0 = true ∧
      selected State.reset.config 2 0 = false :=
  ⟨accepts_of (by decide), accepts_of (by decide), by decide, by decide, by decide, by decide⟩

/-- The first and the last index of each table, with and without the palette bit. -/
theorem test_witness_NccWritesReachTheSelectedUnits :
    Accepts v2 (0xC9 + 0) ∧ Accepts v2 (0xC9 + 11) ∧ Accepts v2 (0xD5 + 0) ∧ Accepts v2 (0xD5 + 11) ∧
      (4 ≤ 11 ∧ bit (0x80FF8040 : Word) 31 = true) ∧ ¬ (4 ≤ 11 ∧ bit (0x00FF8040 : Word) 31 = true) ∧
      ¬ (4 ≤ 3 ∧ bit (0x80FF8040 : Word) 31 = true) :=
  ⟨accepts_of (by decide), accepts_of (by decide), accepts_of (by decide), accepts_of (by decide), by decide, by decide,
    by decide⟩

/-- The clauses at n = 0, 3, 4, 7, 8, 11. -/
theorem test_witness_NccWriteFillsCoefficientsOrPalette :
    Tmu.reset.ok = true ∧ bit (0x80FF8040 : Word) 31 = true ∧ bit (0x00FF8040 : Word) 31 = false ∧
      (nccWrite .standard false 0 0 0x80FF8040 Tmu.reset).ncc0.y = [(0, 0x40), (1, 0x80), (2, 0xFF), (3, 0x80)] ∧
      (nccWrite .standard false 0 3 0x40 Tmu.reset).ncc0.y = [(12, 0x40)] ∧
      (nccWrite .standard false 0 4 0x201 Tmu.reset).ncc0.ig = [(0, 1)] ∧ (nccWrite .standard false 0 7 0x201 Tmu.reset).ncc0.ib = [(3, 1)] ∧
      (nccWrite .standard false 1 8 0x40000 Tmu.reset).ncc1.qr = [(0, 1)] ∧
      (nccWrite .standard false 1 11 0xFF000000 Tmu.reset).palette = [(255, 0xFF000000)] := by decide +kernel

theorem test_witness_NccRebuildGivesEveryEntry :
    Ncc.zero.dirty = true ∧ (freshNcc .standard Ncc.zero).dirty = false := by decide +kernel

theorem test_witness_TextureParameterWritesMarkTheUnitDirty : Accepts State.reset 0xC0 ∧ Accepts State.reset 0xC6 :=
  ⟨accepts_of (by decide), accepts_of (by decide)⟩

theorem test_witness_LazyTablesNeverGoStale :
    ({ State.reset with pending := [.regWr 0x3C0 7] } : State).tablesFresh ∧
      ∃ t, step { State.reset with pending := [.regWr 0x3C0 7] } = .next t :=
  ⟨⟨.inl rfl, .inl rfl⟩, next_of_isSome (by decide)⟩

theorem test_witness_InitWritesRecomputeTheLayout : Accepts v2 0x80 ∧ Accepts v2 0x87 ∧ Accepts v2 0x93 :=
  ⟨accepts_of (by decide), accepts_of (by decide), accepts_of (by decide)⟩

/-- graphics_reset on the FBI, and not. -/
theorem test_witness_InitZeroWriteRecomputesAndResetsCounters :
    Accepts v2 0x84 ∧ selected v2.config 1 0 = true ∧ bit (2 : Word) 1 = true ∧ bit (1 : Word) 1 = false ∧
      selected v2.config 2 0 = false :=
  ⟨accepts_of (by decide), by decide, by decide, by decide, by decide⟩

/-- Two states with the same parameters and layout registers that differ elsewhere, and the two variants. -/
theorem test_witness_LayoutFollowsTheInitRegisters :
    State.reset.config = (withRegs State.reset [(0x51, 7)]).config ∧
      (∀ i ∈ [0x80, 0x84, 0x85, 0x86, 0x87, 0x91, 0x92], State.reset.reg 0 i = (withRegs State.reset [(0x51, 7)]).reg 0 i) ∧
      State.reset ≠ withRegs State.reset [(0x51, 7)] ∧ State.reset.isV2 = false ∧ v2.isV2 = true := by decide

/-- Not selected, a push, a latch of register 0, and the latch of register 5. -/
theorem test_witness_DacDataPushesOrLatches :
    Accepts State.reset 0x8B ∧ State.reset.dac.reg.wf = true ∧ selected State.reset.config 2 0 = false ∧
      selected State.reset.config 1 0 = true ∧ bit (0x741 : Word) 11 = false ∧ bit (0x800 : Word) 11 = true ∧
      field (0x800 : Word) 8 3 = 0 ∧ field (0xD00 : Word) 8 3 = 5 :=
  ⟨accepts_of (by decide), by decide, by decide, by decide, by decide, by decide, by decide, by decide⟩

theorem test_witness_NopCommandClearsTheCountersItNames :
    Accepts v2 0x48 ∧ v2.isV2 = true ∧ selected v2.config 1 0 = true ∧ bit (3 : Word) 0 = true ∧ bit (3 : Word) 1 = true :=
  ⟨accepts_of (by decide), by decide, by decide, by decide, by decide⟩

/-- 640 by 480 clipped to one row of two pixels; one pixel inside at each end; both paint clauses. -/
def fill (fbz : Word) : State := withRegs s1 [(0x44, fbz), (0x46, 0x0000_0002), (0x47, 0x0000_0001), (0x4C, 0x1234)]

/-- With the colour buffer at byte 0, the aux buffer at 0x12C000 and 640 pixels a row, pixels inside the first 480
rows have their colour and aux words apart. -/
theorem apart_of_rows {s : State} {inside : Nat → Nat → Prop}
    (hd : drawBase s = some 0) (ha : s.fbi.auxoffs = some 0x12C000 ∧ s.fbi.rowpixels = 640)
    (hy : FbzMode.yOrigin (s.reg 0 Reg.fbzMode) = false) (hin : ∀ x y, inside x y → x < 640 ∧ y < 480) :
    wordsApart s (drawBase s) inside := by
  intro x y x' y' a h h' ho
  have h1 := hin _ _ h
  simp only [ownsByte, hd, ha.1, ha.2, pixelOffset, screenY, hy] at ho
  have e0 : (0 : Word).toNat = 0 := rfl
  have e1 : (0x12C000 : Word).toNat = 0x12C000 := rfl
  have e2 : (640 : Word).toNat = 640 := rfl
  rw [e0, e1, e2] at ho
  simp only [Bool.false_eq_true, if_false] at ho
  omega

theorem test_witness_FastfillPaintsTheClipRectangle :
    Accepts (fill 0x200) 0x49 ∧ selected (fill 0x200).config 1 0 = true ∧ (fill 0x200).fbi.ram.wf = true ∧
      FbzMode.rgbBufferMask 0x200 = true ∧ FbzMode.auxBufferMask 0x200 = false ∧
      field ((fill 0x200).reg 0 Reg.clipLeftRight) 0 10 ≤ (fill 0x200).fbi.rowpixels.toNat ∧
      drawBase (fill 0x200) = some 0 ∧
      (0 : Word).toNat + pixelOffset (fill 0x200).fbi 1 (screenY (fill 0x200) 0) + 1 ≤ (fill 0x200).fbi.mask.toNat ∧
      Accepts (fill 0x400) 0x49 ∧ FbzMode.rgbBufferMask 0x400 = false ∧ FbzMode.auxBufferMask 0x400 = true ∧
      (fill 0x400).fbi.auxoffs = some 0x12C000 ∧
      (0x12C000 : Word).toNat + pixelOffset (fill 0x400).fbi 1 (screenY (fill 0x400) 0) + 1 ≤
        (fill 0x400).fbi.mask.toNat ∧
      after (exec (.fastfillCMD 1 0) (fill 0x200)) (fun t => decide (t.reg 0 Reg.fbiPixelsOut = 2)) = true ∧
      after (exec (.fastfillCMD 1 0) (fill 0x400))
        (fun t => decide (fbWord (0x12C000 + 2) t.fbi = 0x1234 ∧ t.reg 0 Reg.fbiPixelsOut = 0)) = true ∧
      FbzMode.rgbBufferMask 0x600 = true ∧ FbzMode.auxBufferMask 0x600 = true ∧
      wordsApart (fill 0x600) (drawBase (fill 0x600)) (fun x y => 0 ≤ x ∧ x < 2 ∧ 0 ≤ y ∧ y < 1) ∧
      rowsApart (fill 0x600) (fun x y => 0 ≤ x ∧ x < 2 ∧ 0 ≤ y ∧ y < 1) ∧
      selected (fill 0x200).config 2 0 = false ∧
      (∃ t, exec (.fastfillCMD 2 0) (fill 0x200) = .next t) :=
  ⟨accepts_of (by decide), by decide, by decide, by decide, by decide, by decide, by decide, by decide,
    accepts_of (by decide), by decide, by decide, by decide, by decide, by decide, by decide, by decide, by decide,
    apart_of_rows (by decide) (by decide) (by decide) (fun x y h => ⟨by omega, by omega⟩),
    rowsApart_of_low rfl (fun x y h => by omega), by decide,
    next_of_isSome (by decide)⟩

/-- Two buffers, three buffers, the no-swap bit, and a chip-select without the FBI. -/
theorem test_witness_SwapRotatesTheBuffersAndRecordsIt :
    Accepts v2 0x4A ∧ v2.fbi.indicesOk = true ∧ v2.fbi.rgb2 = none ∧
      Accepts { v2 with fbi := { v2.fbi with rgb2 := some 0x12C000 } } 0x4A ∧
      ({ v2.fbi with rgb2 := some 0x12C000 } : Fbi).indicesOk = true ∧
      (v2.isV2 = true ∧ ∃ i, v2.config.swapNoswapBit = some i ∧ bit (0x200 : Word) i.val = true) ∧
      ¬ (∃ i, v2.config.swapNoswapBit = some i ∧ bit (0x1FF : Word) i.val = true) ∧
      selected v2.config 1 0 = true ∧ selected v2.config 2 0 = false :=
  ⟨accepts_of (by decide), by decide, by decide, accepts_of (by decide), by decide, ⟨by decide, 9, rfl, by decide⟩, by
    rintro ⟨i, hi, hb⟩; cases hi; exact absurd hb (by decide), by decide, by decide⟩

theorem test_witness_SwapsRestoreAndSeparateTheBuffers :
    v2.fbi.rgb2 = none ∧ v2.fbi.indicesOk = true ∧ v2.fbi.frontbuf ≠ v2.fbi.backbuf ∧ noSwap 0 v2 = false ∧
      ({ v2 with fbi := { v2.fbi with rgb2 := some 0x12C000, frontbuf := 2, backbuf := 0 } } : State).fbi.rgb2 ≠ none ∧
      (0 : Fin 3) = 2 + 1 := by decide

/-- The triangle (0,0), (4,0), (0,4) covers pixels of columns 0 to 3 alone. -/
theorem corner_columns {n : Snapshot} (hf : n.frac = 4) (ha : n.va.point = { x := 0, y := 0 }) (hb : n.vb.point = { x := 64, y := 0 })
    (hc : n.vc.point = { x := 0, y := 64 })
    (x y : Nat) (h : n.covers x y) : x < 4 ∧ y < 4 := by
  unfold Snapshot.covers Snapshot.covered at h
  rw [hf, ha, hb, hc] at h
  simp only [Bool.and_eq_true, decide_eq_true_eq] at h
  obtain ⟨⟨⟨⟨⟨-, -⟩, -⟩, hy⟩, -⟩, hx⟩ := h
  have e : sortPoints { x := 0, y := 0 } { x := 64, y := 0 } { x := 0, y := 64 } =
      { v0 := { x := 0, y := 0 }, v1 := { x := 64, y := 0 }, v2 := { x := 0, y := 64 } } := by decide
  rw [e] at hx hy
  have hy4 : y < 4 := by
    have e4 : rowOf 4 { x := 0, y := 64 } = 4 := by decide
    rw [e4] at hy
    omega
  have : ∀ j : Fin 4, (spanOf 4 { v0 := { x := 0, y := 0 }, v1 := { x := 64, y := 0 }, v2 := { x := 0, y := 64 } }
      (j.val : Int)).stop ≤ 4 := by decide
  have := this ⟨y, hy4⟩
  simp only [] at this
  omega

/-- Untextured, with a covered pixel that fits; textured with two units: unit 0 at the largest LOD maximum that
cannot overflow, unit 1 out of the chain. -/
theorem test_witness_TriangleCommandsDrawTheirPixels :
    Accepts ready 0x20 ∧ Accepts ready 0x40 ∧ selected ready.config 1 0 = true ∧
      FbzMode.drawBuffer .standard (ready.reg 0 Reg.fbzMode) < 2 ∧ ready.cacheRoom ∧ activeUnits ready = 0 ∧
      (∀ u, u < activeUnits ready → ready.unitSamples (snapshot 0 (adjusted ready)) u) ∧
      PlainPipeline ready ∧ ready.fbi.ram.wf = true ∧ FbzMode.rgbBufferMask (ready.reg 0 Reg.fbzMode) = true ∧
      FbzMode.auxBufferMask (ready.reg 0 Reg.fbzMode) = false ∧
      (∀ x y, (snapshot 0 (adjusted ready)).covers x y → x < ready.fbi.rowpixels.toNat) ∧
      drawBase ready = some 0 ∧ (snapshot 0 (adjusted ready)).covers 3 0 ∧ pixelFits ready 0 3 0 ∧
      wordsApart ready (drawBase ready) (snapshot 0 (adjusted ready)).covers ∧
      rowsApart ready (snapshot 0 (adjusted ready)).covers ∧
      Accepts sampled 0x20 ∧ activeUnits sampled = 2 ∧ sampled.cacheRoom ∧ sampled.config.constants = .standard ∧
      sampled.unitFresh 0 ∧ sampled.registersSample 0 ∧
      ∀ u, u < 2 → sampled.unitSamples (snapshot 2 (adjusted sampled)) u := by
  have hc := corner_columns (n := snapshot 0 (adjusted ready)) (by decide) (by decide) (by decide)
    (by decide)
  refine ⟨accepts_of (by decide), accepts_of (by decide), by decide, by decide, .inl (by decide), by decide, ?_,
    ⟨by decide, by decide, by decide, by decide, by decide, by decide, by decide, by decide⟩, by decide, by decide,
    by decide, ?_, by decide, by unfold Snapshot.covers; decide, by unfold pixelFits; decide,
    apart_of_rows (by decide) (by decide) (by decide) (fun x y h => ?_), rowsApart_of_low rfl (fun x y h => ?_),
    accepts_of (by decide), by decide, .inl (by decide), by decide, .inl rfl,
    by unfold State.registersSample; decide, ?_⟩
  · intro u hu
    rw [show activeUnits ready = 0 by decide] at hu
    omega
  · intro x y h
    have := (hc x y h).1
    have e : ready.fbi.rowpixels.toNat = 640 := by decide
    omega
  · have := hc x y h
    omega
  · unfold Snapshot.covers Snapshot.covered at h
    simp only [Bool.and_eq_true, decide_eq_true_eq] at h
    omega
  · intro u hu
    have : u = 0 ∨ u = 1 := by omega
    rcases this with rfl | rfl
    · intro _
      exact ⟨by decide, fun x y _ => texcoord_level_le _ _ _ _ _ _ _ _ rfl (by decide) (by decide)⟩
    · intro h
      exact absurd h (by decide)

theorem test_witness_TriangleCommandsThatDrawNothing :
    Accepts ready 0x20 ∧ selected ready.config 2 0 = false ∧ selected ready.config 1 0 = true ∧
      Accepts (withRegs ready [(0x44, 0x8000)]) 0x40 ∧
      FbzMode.drawBuffer .standard ((withRegs ready [(0x44, 0x8000)]).reg 0 Reg.fbzMode) = 2 :=
  ⟨accepts_of (by decide), by decide, by decide, accepts_of (by decide), by decide⟩

/-- (0,0), (1,1), (2,2) in whole pixels. -/
theorem test_witness_ColinearTriangleDrawsNothing :
    let s : State := { ready with fbi := { ready.fbi with vb := { x := 16, y := 16 }, vc := { x := 32, y := 32 } } }
    Accepts s 0x20 ∧ selected s.config 1 0 = true ∧ FbzMode.drawBuffer .standard (s.reg 0 Reg.fbzMode) < 2 ∧ s.cacheRoom ∧
      colinear s.fbi.va.point s.fbi.vb.point s.fbi.vc.point :=
  ⟨accepts_of (by decide), by decide, by decide, .inl (by decide), by unfold colinear; decide⟩

/-- A triangle, a setup triangle and a pipelined LFB write. -/
theorem test_witness_CounterIdentityOfDrawing :
    p2.regs.wf = true ∧ (∃ t, exec (.triangleCMD 1 0) p2 = .next t) ∧
      (withRegs s1 [(0x44, 0x200), (0x45, 0x100)]).regs.wf = true ∧
      LfbMode.enablePipeline ((withRegs s1 [(0x44, 0x200), (0x45, 0x100)]).reg 0 Reg.lfbMode) = true ∧
      ∃ t, exec (.lfbWr 0x201 0x07E0F800 0xF) (withRegs s1 [(0x44, 0x200), (0x45, 0x100)]) = .next t :=
  ⟨by decide, next_of_isSome (by decide +kernel), by decide, by decide, next_of_isSome (by decide +kernel)⟩

/-- A cache with room for no entry. -/
theorem test_witness_FullCacheStopsTheChipBeforeDrawing :
    let s : State := { ready with config := { ready.config with cacheMax := 0 } }
    Accepts s 0x20 ∧ selected s.config 1 0 = true ∧ FbzMode.drawBuffer .standard (s.reg 0 Reg.fbzMode) < 2 ∧ ¬ s.cacheRoom :=
  ⟨accepts_of (by decide), by decide, by decide, by unfold State.cacheRoom; decide⟩

theorem test_witness_CacheIsAppendOnly :
    ready.cache.buckets.length = 97 ∧ (resolve 0 ready).isSome = true ∧
      ((resolve 0 ready).bind (resolve 0)).isSome = true ∧ 0 ≤ 2 ∧
      ready.config.constants.keys = Constants.standard.keys := by decide

/-- `ready` with sverts vertices in the ring and a setup mode; the setup registers hold the vertex (0, 4). -/
def strip (sverts mode : Word) : State :=
  { withRegs ready [(0x98, mode), (0x99, 0x00000000), (0x9A, 0x40800000)] with
    fbi := { ready.fbi with sverts := sverts, svert2 := { SetupVertex.zero with x := 0x40800000 } } }

/-- The empty cache against one that holds the key, for a classic and for a setup-mode triangle. -/
theorem test_witness_CacheNeverChangesTheOutput :
    let c := Cache.empty.allocate (hashKey (makeKey 0 ready)) (makeKey 0 ready) 0
    ready.cacheRoom ∧ State.cacheRoom { ready with cache := c } ∧ c ≠ ready.cache ∧
      (∃ t, exec (.triangleCMD 1 0) ready = .next t) ∧
      (strip 2 0).cacheRoom ∧ State.cacheRoom { strip 2 0 with cache := c } ∧
      ∃ t, exec (.sDrawTriCMD 1 0) (strip 2 0) = .next t :=
  ⟨.inl (by decide), .inl (by decide), by decide, next_of_isSome (by decide +kernel), .inl (by decide),
    .inl (by decide), next_of_isSome (by decide +kernel)⟩

theorem test_witness_BeginFillsTheVertexRing :
    Accepts v2 0xA9 ∧ selected v2.config 1 0 = true ∧ selected v2.config 2 0 = false :=
  ⟨accepts_of (by decide), by decide, by decide⟩

/-- Not selected; the second vertex; the third, culled on bits 17 and 18. -/
theorem test_witness_DrawCommandAppendsAndCulls :
    Accepts (strip 1 0) 0xA8 ∧ selected (strip 1 0).config 2 0 = false ∧ selected (strip 1 0).config 1 0 = true ∧
      ((strip 1 0).fbi.sverts + 1).toNat < 3 ∧ 3 ≤ ((strip 2 0x60000).fbi.sverts + 1).toNat ∧
      Accepts (strip 2 0x60000) 0xA8 ∧ (strip 2 0x60000).setupRejected :=
  ⟨accepts_of (by decide), by decide, by decide, by decide, by decide, accepts_of (by decide), by
    unfold State.setupRejected; decide +kernel⟩

/-- Culling off; culling on with the sign agreeing; a reserved draw buffer. -/
theorem test_witness_SetupDrawIsTheClassicDraw :
    Accepts (strip 2 0) 0xA8 ∧ selected (strip 2 0).config 1 0 = true ∧ 3 ≤ ((strip 2 0).fbi.sverts + 1).toNat ∧
      ¬ (strip 2 0).setupRejected ∧
      Accepts (strip 2 0x20000) 0xA8 ∧ bit ((strip 2 0x20000).reg 0 Reg.sSetupMode) 17 = true ∧
      ¬ (strip 2 0x20000).setupRejected ∧
      Accepts (withRegs (strip 2 0) [(0x44, 0xC200)]) 0xA8 ∧
      FbzMode.drawBuffer .standard ((withRegs (strip 2 0) [(0x44, 0xC200)]).reg 0 Reg.fbzMode) = 3 ∧
      FbzMode.drawBuffer .standard ((strip 2 0).reg 0 Reg.fbzMode) < 2 ∧ (strip 2 0).setupDone.cacheRoom ∧
      activeUnits (strip 2 0).setupDone = 0 ∧
      (∀ u, u < activeUnits (strip 2 0).setupDone →
        (strip 2 0).setupDone.unitSamples (snapshot 0 (adjusted (strip 2 0).setupDone)) u) ∧
      PlainPipeline (strip 2 0).setupDone ∧ (strip 2 0).setupDone.fbi.ram.wf = true ∧
      (snapshot 0 (adjusted (strip 2 0).setupDone)).covers 3 0 := by
  refine ⟨accepts_of (by decide), by decide, by decide, by unfold State.setupRejected; decide +kernel,
    accepts_of (by decide), by decide, by unfold State.setupRejected; decide +kernel, accepts_of (by decide), by decide,
    by decide, .inl (by decide +kernel), by decide +kernel, ?_,
    ⟨by decide +kernel, by decide +kernel, by decide +kernel, by decide +kernel, by decide +kernel, by decide +kernel,
      by decide +kernel, by decide +kernel⟩, by decide +kernel, by unfold Snapshot.covers; decide +kernel⟩
  intro u hu
  rw [show activeUnits (strip 2 0).setupDone = 0 by decide +kernel] at hu
  omega

theorem test_witness_PackedColourFillsTheSetupColours :
    Accepts v2 0x9B ∧ selected v2.config 1 0 = true ∧ (255 : Nat) < 256 ∧
      floatToInt 32 (floatOfBits (floatOfNat 255)) = 255 ∧ floatToInt 32 (floatOfBits (floatOfNat 0)) = 0 :=
  ⟨accepts_of (by decide), by decide, by decide, by decide, by decide⟩

/-- Each variant, and a canonical register file. -/
theorem test_witness_ComputedReadsAnswer :
    State.reset.fatal = none ∧ State.reset.config.access = none ∧ State.reset.config.variant = .v1 ∧
      State.reset.regs.wf = true ∧ v2.fatal = none ∧ v2.config.access = none ∧ v2.config.variant = .v2 := by decide

/-- No read right, an FBI register, a texture register through unit 0, and through unit 1 alone. -/
theorem test_witness_RegisterReadReturnsTheBankOrAllOnes :
    State.reset.fatal = none ∧ readable State.reset.config (effectiveIndex State.reset 0xC0) = false ∧
      readable State.reset.config (effectiveIndex State.reset 0x51) = true ∧ 0x51 ∉ computedReads ∧
      textureOnly (effectiveIndex State.reset 0x51) = false ∧
      readable openAll.config (effectiveIndex openAll 0x0C0) = true ∧ textureOnly (effectiveIndex openAll 0x0C0) = true ∧
      selected openAll.config ((0x0C0 : Word).extractLsb' 8 4) 1 = true ∧
      readable openAll.config (effectiveIndex openAll 0x4E0) = true ∧ textureOnly (effectiveIndex openAll 0x4E0) = true ∧
      selected openAll.config ((0x4E0 : Word).extractLsb' 8 4) 1 = false ∧
      selected openAll.config ((0x4E0 : Word).extractLsb' 8 4) 2 = true := by decide +kernel

/-- A write that stores, one in a reserved format, one in a reserved buffer, and one with no byte enabled. -/
theorem test_witness_LfbWriteTouchesOnlyItsPixels :
    s1.fatal = none ∧ s1.regs.wf = true ∧ LfbMode.writeFormat .standard ((withRegs s1 [(0x45, 3)]).reg 0 Reg.lfbMode) = 3 ∧
      LfbMode.writeFormat .standard ((withRegs s1 [(0x45, 11)]).reg 0 Reg.lfbMode) = 11 ∧
      LfbMode.writeBuffer .standard ((withRegs s1 [(0x45, 0x20)]).reg 0 Reg.lfbMode) = 2 ∧
      after (exec (.lfbWr 0x201 0x07E0F800 0xF) (withRegs s1 [(0x44, 0x200)])) (fun t => decide (px t 3 1 = 0x07E0)) =
        true ∧
      after (exec (.lfbWr 0x201 0x07E0F800 0) (withRegs s1 [(0x44, 0x200)])) (fun t => decide (px t 3 1 = 0)) = true := by
  decide

/-- 5-6-5, lanes 0, no swaps, buffer 0 for both, at the last two pixels that fit. -/
theorem test_witness_LfbRawRoundTrip :
    let s := withRegs s1 [(0x44, 0x200)]
    let mode := s.reg 0 Reg.lfbMode
    s.fatal = none ∧ s.fbi.ram.wf = true ∧ LfbMode.enablePipeline mode = false ∧ LfbMode.writeFormat .standard mode = 0 ∧
      LfbMode.lanes .standard mode % 2 = 0 ∧ LfbMode.wordSwapWrites mode = false ∧ LfbMode.byteSwizzleWrites mode = false ∧
      LfbMode.wordSwapReads mode = false ∧ LfbMode.byteSwizzleReads mode = false ∧ LfbMode.writeBuffer .standard mode < 2 ∧
      LfbMode.readBuffer .standard mode = LfbMode.writeBuffer .standard mode ∧
      s.config.constants.expand = Constants.standard.expand ∧ s.config.constants.lanes = Constants.standard.lanes ∧
      s.config.constants.pixel = Constants.standard.pixel ∧ s.config.constants.parts = Constants.standard.parts ∧
      FbzMode.enableDithering (s.reg 0 Reg.fbzMode) = false ∧
      FbzMode.rgbBufferMask (s.reg 0 Reg.fbzMode) = true ∧ lfbReadBase .standard mode s.fbi = some 0 ∧
      lfbReadAddress s 0 0x201 + 3 ≤ s.fbi.mask.toNat := by decide

/-- The front, the aux and the reserved buffer. -/
theorem test_witness_LfbReadReturnsTwoPixelsOrAllOnes :
    s1.fatal = none ∧ lfbReadBase .standard (s1.reg 0 Reg.lfbMode) s1.fbi = some 0 ∧
      LfbMode.readBuffer .standard ((withRegs s1 [(0x45, 0x80)]).reg 0 Reg.lfbMode) = 2 ∧
      LfbMode.readBuffer .standard ((withRegs s1 [(0x45, 0xC0)]).reg 0 Reg.lfbMode) = 3 ∧
      lfbReadBase .standard ((withRegs s1 [(0x45, 0xC0)]).reg 0 Reg.lfbMode) s1.fbi = none := by decide

/-- An absent unit, mip level 9, and mip level 8. -/
theorem test_witness_TextureUploadStoresFourBytes :
    State.reset.fatal = none ∧ State.reset.config.ntmu.val ≤ field (0x80000 : Word) 19 2 ∧
      field (0x48000 : Word) 19 2 < State.reset.config.ntmu.val ∧ field (0x48000 : Word) 15 4 = 9 ∧
      State.reset.isV2 = false ∧ field (0x40000 : Word) 15 4 = 8 ∧ (State.reset.tmu 0).ok = true := by decide

theorem test_witness_DirectTextureWriteIsRefused :
    let s := withRegs v2 [(0x1C1, 0x08000000)]
    s.fatal = none ∧ s.isV2 = true ∧ field (0 : Word) 19 2 < s.config.ntmu.val ∧
      bit (s.texReg (field (0 : Word) 19 2) Reg.tLOD) 27 = true := by decide

/-- A colour pixel (fbzMode 0x200), a depth pixel (0x400), and a pixel of both (0x600). -/
theorem test_witness_PlainPixelWritesTheCombinedColour :
    (fill 0x200).fbi.ram.wf = true ∧ PlainPipeline (fill 0x200) ∧ PlainPipeline (fill 0x400) ∧
      PlainPipeline (fill 0x600) ∧
      FbzMode.rgbBufferMask 0x200 = true ∧ FbzMode.auxBufferMask 0x200 = false ∧ drawBase (fill 0x200) = some 0 ∧
      pixelFits (fill 0x200) 0 639 0 ∧ FbzMode.rgbBufferMask 0x400 = false ∧ FbzMode.auxBufferMask 0x400 = true ∧
      (fill 0x400).fbi.auxoffs = some 0x12C000 ∧ pixelFits (fill 0x400) 0x12C000 639 0 ∧
      wordsApart (fill 0x600) (drawBase (fill 0x600)) (fun x y => x = 639 ∧ y = 0) :=
  ⟨by decide, ⟨by decide, by decide, by decide, by decide, by decide, by decide, by decide, by decide⟩,
    ⟨by decide, by decide, by decide, by decide, by decide, by decide, by decide, by decide⟩,
    ⟨by decide, by decide, by decide, by decide, by decide, by decide, by decide, by decide⟩, by decide, by decide,
    by decide, by unfold pixelFits; decide, by decide, by decide, by decide, by unfold pixelFits; decide,
    apart_of_rows (by decide) (by decide) (by decide) (fun x y h => ⟨by omega, by omega⟩)⟩

theorem test_witness_PixelIsCountedOutOrWritesNothing : ∃ t, pixel 0 1 1
    { r := 0, g := 0, b := 0, a := 0, z := 0, w := 0 } { s := 0, t := 0, w := 0, lodbase := 0 }
    { s := 0, t := 0, w := 0, lodbase := 0 } (fill 0x200) = .next t :=
  pixel_zero_next 1 1 _ _ _ _

theorem test_witness_PciInitEnableSetsTheWord : State.reset.fatal = none := rfl

/-- Both policies and both failures: the smallest size, and one that is not supported. -/
theorem test_witness_ResetBuildsTheResetState :
    supportedSize (Config.standard .v1).fbmemBytes = true ∧ supportedSize (Config.standard .v1).tmumemBytes = true ∧
      supportedSize 0x300000 = false := by decide

theorem test_witness_StepKeepsTheStateInvariant :
    ({ State.reset with pending := [.regWr 0x151 7] } : State).Inv = true ∧
      ∃ t, step { State.reset with pending := [.regWr 0x151 7] } = .next t :=
  ⟨by decide, next_of_isSome (by decide)⟩

theorem test_witness_FatalStateHasNoStep :
    ({ State.reset with fatal := some .cacheOverflow } : State).fatal = some .cacheOverflow ∧
      (∀ c q, Instr.color0 1 7 ≠ .reset c q) ∧ supportedSize (Config.standard .v2).fbmemBytes = true ∧
      supportedSize (Config.standard .v2).tmumemBytes = true :=
  ⟨rfl, (by intro c q h; cases h), by decide, by decide⟩

/-- A next state that is fatal, and a refusal. -/
theorem test_witness_OnlyTheNamedCausesStopTheChip :
    State.reset.fatal = none ∧
      after (exec (.triangleCMD 1 0) { p2 with config := { p2.config with cacheMax := 0 } })
        (fun t => decide (t.fatal = some .cacheOverflow)) = true ∧
      exec (.texWr 0 0) (withRegs v2 [(0x1C1, 0x08000000)]) = .refused .directWrite :=
  ⟨rfl, by decide, rfl⟩

theorem test_witness_OnlyTheirOperationsReachThem :
    (∃ t, exec (.color0 1 7) State.reset = .next t) ∧ ∀ c q, Instr.color0 1 7 ≠ .reset c q :=
  ⟨next_of_isSome (by decide), by intro c q h; cases h⟩

theorem test_witness_BilinearIsPerChannelFloorInterpolation :
    (0 : Nat) < 256 ∧ (255 : Nat) < 256 ∧ 0 ∈ [0, 8, 16, 24] ∧ 24 ∈ [0, 8, 16, 24] ∧
      bilinear 8 0 0x80808080 0 0x80808080 128 255 = 0x40404040 := by decide

theorem test_witness_ConversionTruncatesAndSaturates :
    16 ∈ [16, 32, 64] ∧ 64 ∈ [16, 32, 64] ∧ floatToInt 16 (.fin true 7 (-1)) = -3 ∧ floatToInt 16 (.fin false 1 15) = 0x7FFF := by
  decide

/-- Level 3 of an 8-bit texture, a level below LOD_MIN_SIZE, and a LOD bias of -4 sixteenths. -/
theorem test_witness_RecomputeDerivesTheTables :
    (3 ≤ 8 ∧ ((0xFF#8).toNat / 2 ^ 8 + 1) * ((0xFF#8).toNat / 2 ^ 8 + 1) < 4) ∧
      levelBase (Config.standard .v1) 0 0 0x1FF 0xFF 0xFF 8 = 0x15554 ∧
      ((recomputeUnit 1 (withRegs v2 [(0x2C1, 0x3F000)])).tmu 1).lodbias.toInt = -64 := by decide

/-! ## Register maps: the checks that walk all 256 indices -/

theorem test_wf_reset_regMap_index_refused :
    (Instr.reset { Config.standard .v1 with
      regMap := some { plainMap with index := List.replicate 256 0 } } .reference).wf = false := by decide +kernel
theorem test_wf_regMap_accepted : swapMap.wf = true := by decide +kernel

/-- A write at an aliasable offset, a read, a reserved index that ACCESS opens, the clause of the plain registers at
its ends 0x00 and 0xFF, and a register map with a register whose bits move, one whose field has other codes, and
one that keeps both; a register with a read right, one without, and fbiInit2 with the DAC read bit. -/
theorem test_witness_AliasedAccessIsTheAccessItMapsTo :
    decode (grantCycle State.reset
          (.regWr (regOffset (BitVec.ofNat 8 (effectiveIndex State.reset 0x1002)) ((0x1002 : Word).extractLsb' 8 4)) 7)) =
        .ok (.vertexAx 0 7) ∧
      decode (grantCycle openAll
          (.regWr (regOffset (BitVec.ofNat 8 (effectiveIndex openAll 0x1E5)) ((0x1E5 : Word).extractLsb' 8 4)) 7)) =
        .ok (.regWr 0x1E5 7) ∧
      decode (.regRd (regOffset (BitVec.ofNat 8 (effectiveIndex State.reset 0x51)) ((0x51 : Word).extractLsb' 8 4))) =
        .ok (.regRd 0x51) ∧
      effectOf (effectiveIndex openAll 0x100) = .stored ∧ Accepts openAll (effectiveIndex openAll 0x100) ∧
      effectOf (effectiveIndex openAll 0x1FF) = .stored ∧ Accepts openAll (effectiveIndex openAll 0x1FF) ∧
      ({ State.reset.config with regMap := some swapMap } : Config).regMap = some swapMap ∧ swapMap.wf = true ∧
      (∀ f ∈ swapMap.fields, f.1.val ≠ 0x52) ∧ (∃ f ∈ swapMap.fields, f.1.val = 0x51) ∧
      (∃ c ∈ swapMap.codes, c.register.val = 0x44) ∧ (∀ c ∈ swapMap.codes, c.register.val ≠ 0x51) ∧
      readable State.reset.config 0x51 = true ∧ readable State.reset.config 0xC0 = false ∧
      readable State.reset.config 0x86 = true ∧ bit (4 : Word) Constants.standard.dacReadBit.val = true :=
  ⟨by decide +kernel, by decide +kernel, rfl, by decide, open_accepts _ (by decide), by decide, open_accepts _ (by decide),
    rfl, test_wf_regMap_accepted, by decide, by decide, by decide, by decide, by decide, by decide, by decide, by decide⟩

end Sys2Proof.Tests
end

section
/-! SUPPORT. From a register operation to the one write path or the one read path: the fields of an offset, the
meaning of each row of the opcode table, and the three kinds of instruction. -/

namespace Sys2Proof.Machine

open Sys2Proof

/-! ## Bits and fields -/

theorem testBit_field {w : Nat} (v : BitVec w) (lo n j : Nat) :
    (field v lo n).testBit j = (decide (j < n) && bit v (lo + j)) := by
  simp [field, bit, Nat.testBit_mod_two_pow, Nat.testBit_shiftRight, BitVec.testBit_toNat]

theorem field_lt {w : Nat} (v : BitVec w) (lo n : Nat) : field v lo n < 2 ^ n := Nat.mod_lt _ (Nat.two_pow_pos n)

theorem field_eq_extractLsb' {w : Nat} (v : BitVec w) (lo n : Nat) : field v lo n = (v.extractLsb' lo n).toNat := by
  simp [field, BitVec.extractLsb'_toNat]

/-! ## The offset of a register (R101) -/

theorem extractLsb'_regOffset_index (n : BitVec 8) (k : BitVec 4) : (regOffset n k).extractLsb' 0 8 = n := by
  unfold regOffset; ext i; grind

theorem offsetChips_regOffset (n : BitVec 8) (k : BitVec 4) : offsetChips (regOffset n k) = k := by
  unfold offsetChips regOffset; ext i; grind

theorem extractLsb'_regOffset_high (n : BitVec 8) (k : BitVec 4) : (regOffset n k).extractLsb' 12 20 = 0 := by
  unfold regOffset; ext i; grind

@[simp] theorem field_regOffset (n : BitVec 8) (k : BitVec 4) : field (regOffset n k) 0 8 = n.toNat := by
  rw [field_eq_extractLsb', extractLsb'_regOffset_index]

/-- The model's own offsets name no other register (R103). -/
@[simp] theorem aliasable_regOffset (n : BitVec 8) (k : BitVec 4) : aliasable (regOffset n k) = false := by
  simp [aliasable, field_eq_extractLsb', extractLsb'_regOffset_high]

/-! ## The effective index (R103, R137) -/

theorem effectiveIndex_lt (s : State) (offset : Word) : effectiveIndex s offset < 256 := by
  unfold effectiveIndex
  split
  · exact BitVec.isLt _
  · exact field_lt _ _ _

/-- An offset that cannot be aliased names its own index. -/
theorem effectiveIndex_eq_field (s : State) {offset : Word} (h : aliasable offset = false) :
    effectiveIndex s offset = field offset 0 8 := by
  unfold effectiveIndex
  split
  · rename_i hc
    simp only [Bool.and_eq_true, decide_eq_true_eq] at hc
    obtain ⟨⟨-, hbit⟩, hlow⟩ := hc
    have hhigh : field offset 12 20 = 0 := by simpa [aliasable, hlow] using h
    have := testBit_field offset 12 20 (aliasBit s.config).val
    simp [hhigh, hbit] at this
  · rfl

@[simp] theorem effectiveIndex_regOffset (s : State) (n : BitVec 8) (k : BitVec 4) :
    effectiveIndex s (regOffset n k) = n.toNat := by
  rw [effectiveIndex_eq_field s (aliasable_regOffset n k), field_regOffset]

/-! ## The rows of register writes (R108) -/

/-- What the row of index `n` means: the one write path, or the dropped write of a reserved index. -/
def writeMeaning (n : Nat) (chips : BitVec 4) (v : Word) (s : State) : Answer :=
  if reservedIndex n then reservedWrite s else regWrite n (effectOf n) chips v s

/-- A block of `n` rows means the indices from `lo` on. -/
def rowsMean (rows : List (BitVec 4 → Word → Instr)) (lo n : Nat) : Prop :=
  rows.map (fun row k v s => exec (row k v) s) = (List.range' lo n).map writeMeaning

theorem rowsMean.append {l r : List (BitVec 4 → Word → Instr)} {lo m n : Nat} (hl : rowsMean l lo m)
    (hr : rowsMean r (lo + m) n) : rowsMean (l ++ r) lo (m + n) := by
  unfold rowsMean at *
  rw [List.map_append, hl, hr, ← List.map_append, List.range'_append_1]

theorem writeRows0_mean : rowsMean writeRows0 0x00 32 := rfl

theorem writeRows1_mean : rowsMean writeRows1 0x20 32 := rfl

theorem writeRows2_mean : rowsMean writeRows2 0x40 32 := rfl

theorem writeRows3_mean : rowsMean writeRows3 0x60 32 := rfl

theorem writeRows4_mean : rowsMean writeRows4 0x80 32 := rfl

theorem writeRows5_mean : rowsMean writeRows5 0xA0 32 := rfl

theorem writeRows6_mean : rowsMean writeRows6 0xC0 32 := rfl

theorem writeRows7_mean : rowsMean writeRows7 0xE0 32 := rfl

theorem map_exec_writeRows :
    writeRows.map (fun row k v s => exec (row k v) s) = (List.range 256).map writeMeaning := by
  have hrows : rowsMean writeRows 0 256 :=
    ((((((writeRows0_mean.append writeRows1_mean).append writeRows2_mean).append writeRows3_mean).append
      writeRows4_mean).append writeRows5_mean).append writeRows6_mean).append writeRows7_mean
  rw [List.range_eq_range']
  exact hrows

theorem writeRows_length : writeRows.length = 256 := by
  simpa only [List.length_map, List.length_range] using congrArg List.length map_exec_writeRows

theorem exec_writeRow {n : Nat} {row : BitVec 4 → Word → Instr} (h : writeRows[n]? = some row) (k : BitVec 4) (v : Word)
    (s : State) : exec (row k v) s = writeMeaning n k v s := by
  have hmap := congrArg (·[n]?) map_exec_writeRows
  simp only [List.getElem?_map, h, Option.map_some] at hmap
  have hn : n < 256 := writeRows_length ▸ (List.getElem?_eq_some_iff.mp h).1
  rw [List.getElem?_range hn, Option.map_some, Option.some.injEq] at hmap
  exact congrFun (congrFun (congrFun hmap k) v) s

theorem writeRows_getElem? {n : Nat} (h : n < 256) : ∃ row, writeRows[n]? = some row :=
  ⟨_, List.getElem?_eq_getElem (writeRows_length.symm ▸ h)⟩

/-- A write whose index no register takes and to which `ACCESS` gives no W is dropped on either path (R132). -/
theorem regWrite_unwritable {s : State} {n : Nat} (h : writable s.config n = false) (e : RegEffect) (k : BitVec 4)
    (v : Word) : regWrite n e k v s = reservedWrite s := by
  have hd : writeDropped s n = true := by simp [writeDropped, h]
  unfold regWrite reservedWrite
  cases hf : s.fatal with
  | none => rw [unlessFatal_none hf, unlessFatal_none hf, if_pos hd]
  | some r => rw [unlessFatal_some hf, unlessFatal_some hf]

/-! ## Decoded operations -/

theorem exec_regWr (offset v : Word) (s : State) :
    exec (.regWr offset v) s =
      regWrite (effectiveIndex s offset) (effectOf (effectiveIndex s offset)) (offsetChips offset) v s := rfl

theorem exec_regRd (offset : Word) (s : State) :
    exec (.regRd offset) s = regRead (effectiveIndex s offset) (offsetChips offset) s := rfl

theorem exec_decodeRegWr {offset : Word} (h : aliasable offset = false) (v : Word) (s : State) :
    exec (decodeRegWr offset v) s = writeMeaning (field offset 0 8) (offsetChips offset) v s := by
  obtain ⟨row, hrow⟩ := writeRows_getElem? (field_lt offset 0 8)
  unfold decodeRegWr
  rw [h, if_neg Bool.false_ne_true, hrow]
  exact exec_writeRow hrow _ _ _

/-- Only the read of a texture-only register looks at its chip-select (R102, R139). -/
theorem regRead_chips {n : Nat} (h : textureOnly n = false) (k k' : BitVec 4) (s : State) :
    regRead n k s = regRead n k' s := by
  unfold regRead readValue
  simp only [h, Bool.false_eq_true, if_false]

theorem exec_decodeRegRd {offset : Word} (h : aliasable offset = false) (s : State) :
    exec (decodeRegRd offset) s = regRead (field offset 0 8) (offsetChips offset) s := by
  unfold decodeRegRd
  rw [h, if_neg Bool.false_ne_true]
  split
  case h_12 => rw [exec_regRd, effectiveIndex_eq_field s h]
  all_goals
    rename_i hn
    rw [hn]
    exact regRead_chips (by decide) _ _ _

/-! ## The kinds of instruction (R100, R108, R139) -/

/-- An operation outside the register rows. -/
def Instr.IsBus (i : Instr) : Prop :=
  (∃ o v, i = .regWr o v) ∨ (∃ o, i = .regRd o) ∨ (∃ o v m, i = .lfbWr o v m) ∨ (∃ o, i = .lfbRd o) ∨
    (∃ o v, i = .texWr o v) ∨ (∃ v, i = .pciIniten v) ∨ ∃ c q, i = .reset c q

/-- A computed read: the one read path at its index. -/
def Instr.IsRead (i : Instr) : Prop := ∃ n ∈ computedReads, ∀ s, exec i s = regRead n 0 s

/-- A register write: a row of the table. -/
def Instr.IsWrite (i : Instr) : Prop :=
  ∃ (n : BitVec 8) (row : BitVec 4 → Word → Instr) (k : BitVec 4) (v : Word),
    encode i = .regWr (regOffset n k) v ∧ writeRows[n.toNat]? = some row ∧ i = row k v

theorem instr_cases (i : Instr) : Instr.IsBus i ∨ Instr.IsRead i ∨ Instr.IsWrite i := by
  cases i
  case regWr | regRd | lfbWr | lfbRd | texWr | pciIniten | reset => exact .inl (by simp [Instr.IsBus])
  case statusRead | fbiInit2Read | fbiPixelsInRead | fbiChromaFailRead | fbiZfuncFailRead | fbiAfuncFailRead |
      fbiPixelsOutRead | vRetraceRead | hvRetraceRead | fbiSwapHistoryRead | fbiTrianglesOutRead =>
    exact .inr (.inl ⟨_, by decide, fun _ => rfl⟩)
  all_goals exact .inr (.inr ⟨_, _, _, _, rfl, rfl, rfl⟩)

end Sys2Proof.Machine
end

section
/-! SUPPORT. The layout as one record update: what it depends on, what it leaves alone, and when an FBI already has
it (R380–R383). -/

namespace Sys2Proof.Machine

open Sys2Proof

/-! ## The layout as one record update -/

/-- A buffer index after the layout: 2 becomes 0 where there is no third buffer (R380). -/
def bufferIndex (third : Option Word) (i : Fin 3) : Fin 3 := if third.isNone && decide (i = 2) then 0 else i

theorem bufferIndex_idem (third : Option Word) (i : Fin 3) :
    bufferIndex third (bufferIndex third i) = bufferIndex third i := by
  cases third with
  | none => revert i; decide
  | some _ => rfl

theorem bufferIndex_none_ne (i : Fin 3) : bufferIndex none i ≠ 2 := by revert i; decide

/-- The places that the registers of `s` give with a RAM of this mask. -/
def layoutPlaces (s : State) (mask : Word) : Fbi :=
  layoutFifo s (layoutTiles s (layoutBuffers s { Fbi.reset with mask := mask }))

/-- The FBI `f` with the places of `p`. -/
def Fbi.placed (p f : Fbi) : Fbi :=
  { f with
    rgb0 := p.rgb0, rgb1 := p.rgb1, rgb2 := p.rgb2, auxoffs := p.auxoffs,
    frontbuf := bufferIndex p.rgb2 f.frontbuf, backbuf := bufferIndex p.rgb2 f.backbuf, tileW := p.tileW,
    tileH := p.tileH, xTiles := p.xTiles, rowpixels := p.rowpixels, fifoBase := p.fifoBase, fifoWords := p.fifoWords,
    yorigin := p.yorigin }

theorem layoutIndices_eq (f : Fbi) :
    layoutIndices f = { f with frontbuf := bufferIndex f.rgb2 f.frontbuf, backbuf := bufferIndex f.rgb2 f.backbuf } := by
  have some_index : ∀ b i, bufferIndex (some b) i = i := fun _ _ => rfl
  unfold layoutIndices
  split
  · rename_i e
    rw [e, some_index, some_index, ← e]
  · rename_i e
    rw [e]
    simp [bufferIndex, ← e]

/-- The FIFO's place is a function of the mask. -/
theorem layoutFifo_eq (s : State) {f g : Fbi} (h : f.mask = g.mask) :
    layoutFifo s f = { f with fifoBase := (layoutFifo s g).fifoBase, fifoWords := (layoutFifo s g).fifoWords } := by
  unfold layoutFifo
  simp only [h]
  split <;> rfl

theorem layoutOf_eq_placed (s : State) (f : Fbi) : layoutOf s f = Fbi.placed (layoutPlaces s f.mask) f := by
  have hb : ∀ g : Fbi, layoutFifo s (layoutTiles s g) = { layoutTiles s g with
      fifoBase := (layoutPlaces s g.mask).fifoBase, fifoWords := (layoutPlaces s g.mask).fifoWords } := fun g =>
    layoutFifo_eq s rfl
  have hp : layoutPlaces s f.mask = { layoutTiles s (layoutBuffers s { Fbi.reset with mask := f.mask }) with
      fifoBase := (layoutPlaces s f.mask).fifoBase, fifoWords := (layoutPlaces s f.mask).fifoWords } := layoutFifo_eq s rfl
  unfold layoutOf
  rw [hb, layoutIndices_eq, hp]
  rfl

/-! ## What the layout depends on -/

/-- The layout reads the configuration and fbiInit0 to fbiInit6 alone (R383). -/
theorem layoutOf_congr {s t : State} (hc : t.config = s.config)
    (hr : ∀ i, isFbiInit i = true → t.reg 0 i = s.reg 0 i) : layoutOf t = layoutOf s := by
  funext f
  unfold layoutOf layoutFifo layoutTiles layoutBuffers bufferConfig tileCount State.isV2
  simp only [hc, hr Reg.fbiInit0 (by decide), hr Reg.fbiInit1 (by decide), hr Reg.fbiInit2 (by decide),
    hr Reg.fbiInit3 (by decide), hr Reg.fbiInit4 (by decide), hr Reg.fbiInit5 (by decide), hr Reg.fbiInit6 (by decide)]

/-! ## What the layout leaves alone -/

theorem layoutOf_mask (s : State) (f : Fbi) : (layoutOf s f).mask = f.mask := by rw [layoutOf_eq_placed]; rfl
theorem layoutOf_ram (s : State) (f : Fbi) : (layoutOf s f).ram = f.ram := by rw [layoutOf_eq_placed]; rfl
theorem layoutOf_fogblend (s : State) (f : Fbi) : (layoutOf s f).fogblend = f.fogblend := by
  rw [layoutOf_eq_placed]; rfl
theorem layoutOf_fogdelta (s : State) (f : Fbi) : (layoutOf s f).fogdelta = f.fogdelta := by
  rw [layoutOf_eq_placed]; rfl

/-- The layout leaves no buffer index that names a missing buffer (R380). -/
theorem layoutOf_indicesOk (s : State) (f : Fbi) : (layoutOf s f).indicesOk = true := by
  rw [layoutOf_eq_placed]
  unfold Fbi.indicesOk Fbi.placed
  cases h : (layoutPlaces s f.mask).rgb2 with
  | none => simp [bufferIndex_none_ne]
  | some _ => simp

/-! ## When an FBI has its layout -/

/-- The layout of the registers is a fixed point of the recompute (R383). -/
theorem layoutOf_idem (s : State) (f : Fbi) : layoutOf s (layoutOf s f) = layoutOf s f := by
  rw [layoutOf_eq_placed s (layoutOf s f), layoutOf_mask, layoutOf_eq_placed]
  unfold Fbi.placed
  simp only [bufferIndex_idem]

/-- The FBI `g` with the layout fields of `f`. -/
def Fbi.withLayout (f g : Fbi) : Fbi :=
  { g with
    mask := f.mask, rgb0 := f.rgb0, rgb1 := f.rgb1, rgb2 := f.rgb2, auxoffs := f.auxoffs, frontbuf := f.frontbuf,
    backbuf := f.backbuf, tileW := f.tileW, tileH := f.tileH, xTiles := f.xTiles, rowpixels := f.rowpixels,
    fifoBase := f.fifoBase, fifoWords := f.fifoWords, yorigin := f.yorigin }

/-- An FBI with the layout fields of one that has its layout has it too. -/
theorem layoutOf_eq_self_of_withLayout {s : State} {f g : Fbi} (h : layoutOf s f = f) (hg : f.withLayout g = g) :
    layoutOf s g = g := by
  rw [← hg]
  calc layoutOf s (f.withLayout g) = (Fbi.placed (layoutPlaces s f.mask) f).withLayout g := layoutOf_eq_placed _ _
    _ = f.withLayout g := by rw [← layoutOf_eq_placed, h]

/-- An FBI that has its layout has it with any other buffer indices that name buffers. -/
theorem layoutOf_setIndices {s : State} {f : Fbi} (h : layoutOf s f = f) {i j : Fin 3}
    (hij : Fbi.indicesOk { f with frontbuf := i, backbuf := j } = true) :
    layoutOf s { f with frontbuf := i, backbuf := j } = { f with frontbuf := i, backbuf := j } := by
  have hp : Fbi.placed (layoutPlaces s f.mask) f = f := (layoutOf_eq_placed s f).symm.trans h
  have hr : (layoutPlaces s f.mask).rgb2 = f.rgb2 := (congrArg Fbi.rgb2 hp :)
  have hkeep : bufferIndex f.rgb2 i = i ∧ bufferIndex f.rgb2 j = j := by
    unfold bufferIndex
    cases e : f.rgb2 <;> simp_all [Fbi.indicesOk]
  calc layoutOf s { f with frontbuf := i, backbuf := j }
      = { Fbi.placed (layoutPlaces s f.mask) f with
          frontbuf := bufferIndex (layoutPlaces s f.mask).rgb2 i,
          backbuf := bufferIndex (layoutPlaces s f.mask).rgb2 j } := layoutOf_eq_placed _ _
    _ = { f with frontbuf := i, backbuf := j } := by rw [hp, hr, hkeep.1, hkeep.2]

end Sys2Proof.Machine
end

section
/-! SUPPORT. The state invariant taken apart, and what each shared operation keeps of it (R26, R27, R85, R88, R200,
R270, R380, R383). -/

namespace Sys2Proof.Machine

open Sys2Proof

/-! ## The invariant by parts -/

/-- `State.Inv` with a name for each part. -/
structure State.InvParts (s : State) : Prop where
  regs : s.regs.inRange 1024 = true
  dac : s.dac.reg.inRange 8 = true
  fbi : s.fbi.ok = true
  indices : s.fbi.indicesOk = true
  tmu0 : s.tmu0.ok = true
  tmu1 : s.tmu1.ok = true
  layout : layoutOf s s.fbi = s.fbi
  cache : s.cacheOk = true

theorem State.inv_iff (s : State) : s.Inv = true ↔ s.InvParts := by
  simp only [State.Inv, State.layoutOk, Bool.and_eq_true, decide_eq_true_eq]
  exact ⟨fun ⟨⟨⟨⟨⟨⟨⟨h1, h2⟩, h3⟩, h4⟩, h5⟩, h6⟩, h7⟩, h8⟩ => ⟨h1, h2, h3, h4, h5, h6, h7, h8⟩,
    fun ⟨h1, h2, h3, h4, h5, h6, h7, h8⟩ => ⟨⟨⟨⟨⟨⟨⟨h1, h2⟩, h3⟩, h4⟩, h5⟩, h6⟩, h7⟩, h8⟩⟩

theorem Fbi.ok_iff (f : Fbi) :
    f.ok = true ↔ supportedSize (f.mask.toNat + 1) = true ∧ f.ram.inRange (f.mask.toNat + 1) = true ∧
      f.fogblend.inRange 64 = true ∧ f.fogdelta.inRange 64 = true := by
  simp only [Fbi.ok, Bool.and_eq_true, and_assoc]

theorem Tmu.ok_iff (t : Tmu) :
    t.ok = true ↔ supportedSize (t.mask.toNat + 1) = true ∧ t.ram.inRange (t.mask.toNat + 1) = true ∧
      t.ncc0.ok = true ∧ t.ncc1.ok = true ∧ t.palette.inRange 256 = true ∧ t.palettea.inRange 256 = true ∧
      t.lodoffset.inRange 9 = true := by
  simp only [Tmu.ok, Bool.and_eq_true, and_assoc]

theorem Ncc.ok_iff (n : Ncc) :
    n.ok = true ↔ n.y.inRange 16 = true ∧ n.ir.inRange 4 = true ∧ n.ig.inRange 4 = true ∧ n.ib.inRange 4 = true ∧
      n.qr.inRange 4 = true ∧ n.qg.inRange 4 = true ∧ n.qb.inRange 4 = true ∧ n.texel.inRange 256 = true := by
  simp only [Ncc.ok, Bool.and_eq_true, and_assoc]

theorem Memory.inRange_tabulate {w : Nat} (n : Nat) (f : Nat → BitVec w) : (Memory.tabulate n f).inRange n = true := by
  simp only [Memory.inRange, Memory.wf_tabulate, Memory.below_tabulate, Bool.and_self]

theorem Memory.inRange_of_wf_below {w n : Nat} {m : Memory w} (h : m.wf = true) (hb : m.below n = true) :
    m.inRange n = true := by
  simp only [Memory.inRange, h, hb, Bool.and_self]

theorem Memory.wf_of_inRange {w n : Nat} {m : Memory w} (h : m.inRange n = true) : m.wf = true :=
  (Bool.and_eq_true _ _ ▸ h).1

/-! ## What the shared operations keep -/

namespace State.InvParts

variable {s : State}

/-- The counters, the free values and the control fields are no part of the invariant. -/
theorem setControl (h : s.InvParts) (c : Stats) (n : Nat) (r : Option Word) (p : List BusCycle) (e : Word)
    (q : Option FatalReason) :
    InvParts { s with stats := c, draws := n, result := r, pending := p, initEnable := e, fatal := q } :=
  ⟨h.regs, h.dac, h.fbi, h.indices, h.tmu0, h.tmu1, h.layout, h.cache⟩

theorem setStats (h : s.InvParts) (c : Stats) : (s.setStats c).InvParts := h.setControl _ _ _ _ _ _

theorem drawn (h : s.InvParts) : s.drawn.InvParts := h.setControl _ _ _ _ _ _

theorem setResult (h : s.InvParts) (r : Option Word) : InvParts { s with result := r } := h.setControl _ _ _ _ _ _

theorem setPending (h : s.InvParts) (p : List BusCycle) : InvParts { s with pending := p } := h.setControl _ _ _ _ _ _

theorem count (h : s.InvParts) (k : Counter) : (Machine.count k s).InvParts := h.setStats _

/-- A write of a slot that the layout does not read. -/
theorem setReg (h : s.InvParts) {b i : Nat} (hb : b < 4) (hi : i < 256) (hl : b = 0 → isFbiInit i = false) (v : Word) :
    (s.setReg b i v).InvParts where
  regs := Memory.inRange_write h.regs (by omega) v
  dac := h.dac
  fbi := h.fbi
  indices := h.indices
  tmu0 := h.tmu0
  tmu1 := h.tmu1
  layout := by
    have hlay : layoutOf (s.setReg b i v) = layoutOf s := by
      refine layoutOf_congr rfl fun j hj => State.reg_setReg_other s hi ?_ v ?_
      · simp only [isFbiInit, Bool.or_eq_true, Bool.and_eq_true, decide_eq_true_eq] at hj
        omega
      · rintro ⟨rfl, rfl⟩
        simp [hl rfl] at hj
    rw [hlay]
    exact h.layout
  cache := h.cache

/-- A change of the FBI that leaves its layout and its memories in their bounds. -/
theorem setFbi (h : s.InvParts) {f : Fbi} (hl : s.fbi.withLayout f = f)
    (hram : f.ram.inRange (s.fbi.mask.toNat + 1) = true) (hb : f.fogblend.inRange 64 = true)
    (hd : f.fogdelta.inRange 64 = true) : (s.setFbi f).InvParts where
  regs := h.regs
  dac := h.dac
  fbi := by
    have hm : f.mask = s.fbi.mask := (congrArg Fbi.mask hl :).symm
    rw [State.setFbi_fbi, Fbi.ok_iff, hm]
    exact ⟨((Fbi.ok_iff _).mp h.fbi).1, hram, hb, hd⟩
  indices := by
    rw [State.setFbi_fbi, ← hl]
    exact h.indices
  tmu0 := h.tmu0
  tmu1 := h.tmu1
  layout := layoutOf_eq_self_of_withLayout h.layout hl
  cache := h.cache

/-- A change of the FBI's iterators, vertices and counters alone. -/
theorem setFbi_iterators (h : s.InvParts) {f : Fbi} (hl : s.fbi.withLayout f = f) (hram : f.ram = s.fbi.ram)
    (hb : f.fogblend = s.fbi.fogblend) (hd : f.fogdelta = s.fbi.fogdelta) : (s.setFbi f).InvParts := by
  obtain ⟨-, kram, kb, kd⟩ := (Fbi.ok_iff _).mp h.fbi
  exact h.setFbi hl (hram ▸ kram) (hb ▸ kb) (hd ▸ kd)

theorem setTmu0 (h : s.InvParts) {t : Tmu} (ht : t.ok = true) : InvParts { s with tmu0 := t } :=
  ⟨h.regs, h.dac, h.fbi, h.indices, ht, h.tmu1, h.layout, h.cache⟩

theorem setTmu1 (h : s.InvParts) {t : Tmu} (ht : t.ok = true) : InvParts { s with tmu1 := t } :=
  ⟨h.regs, h.dac, h.fbi, h.indices, h.tmu0, ht, h.layout, h.cache⟩

theorem tmu (h : s.InvParts) (u : Nat) : (s.tmu u).ok = true := by
  unfold State.tmu
  split
  · exact h.tmu0
  · exact h.tmu1

theorem setTmu (h : s.InvParts) (u : Nat) {t : Tmu} (ht : t.ok = true) : (s.setTmu u t).InvParts := by
  unfold State.setTmu
  split
  · exact h.setTmu0 ht
  · exact h.setTmu1 ht

theorem bufferWrite (h : s.InvParts) (base : Option Word) (x sy : Nat) (v : Half) :
    (Machine.bufferWrite base x sy v s).InvParts := by
  obtain ⟨-, kram, kb, kd⟩ := (Fbi.ok_iff _).mp h.fbi
  rw [bufferWrite_eq]
  exact h.setFbi rfl (bufferWrite_inRange kram) kb kd

/-- The fold writes the five statistics registers (R140). -/
theorem foldStats (h : s.InvParts) : (Machine.foldStats s).InvParts := by
  unfold Machine.foldStats
  refine setStats (setReg (setReg (setReg (setReg (setReg h ?_ ?_ ?_ _) ?_ ?_ ?_ _) ?_ ?_ ?_ _) ?_ ?_ ?_ _) ?_ ?_ ?_ _) _ <;>
    decide

theorem clearStats (h : s.InvParts) : (Machine.clearStats s).InvParts := by
  unfold Machine.clearStats
  refine setStats (setReg (setReg (setReg (setReg (setReg h ?_ ?_ ?_ _) ?_ ?_ ?_ _) ?_ ?_ ?_ _) ?_ ?_ ?_ _) ?_ ?_ ?_ _) _ <;>
    decide

theorem counterReset (h : s.InvParts) (clearAll clearTriangles : Bool) :
    (Machine.counterReset clearAll clearTriangles s).InvParts := by
  have h1 : (if clearAll = true then Machine.clearStats s else s).InvParts := by
    split
    · exact h.clearStats
    · exact h
  have h2 : ∀ t : State, t.InvParts →
      (if (clearTriangles && t.isV2) = true then t.setReg 0 Reg.fbiTrianglesOut 0 else t).InvParts := by
    intro t ht
    split
    · exact ht.setReg (by decide) (by decide) (fun _ => by decide) _
    · exact ht
  exact h2 _ h1

/-- The recompute gives the layout whatever the init registers hold (R383). -/
theorem recomputeLayout (hregs : s.regs.inRange 1024 = true) (hdac : s.dac.reg.inRange 8 = true)
    (hfbi : s.fbi.ok = true) (h0 : s.tmu0.ok = true) (h1 : s.tmu1.ok = true) (hcache : s.cacheOk = true) :
    (Machine.recomputeLayout s).InvParts where
  regs := hregs
  dac := hdac
  fbi := by
    rw [Machine.recomputeLayout, State.setFbi_fbi, Fbi.ok_iff, layoutOf_mask, layoutOf_ram, layoutOf_fogblend,
      layoutOf_fogdelta]
    exact (Fbi.ok_iff _).mp hfbi
  indices := layoutOf_indicesOk s s.fbi
  tmu0 := h0
  tmu1 := h1
  layout := layoutOf_idem s s.fbi
  cache := hcache

/-- A store in the selected banks of a slot that the layout does not read. -/
theorem storeBanks (h : s.InvParts) (sel : Select) {i : Nat} (hi : i < 256) (hl : isFbiInit i = false) (v : Word) :
    (Machine.storeBanks sel i v s).InvParts := by
  have step : ∀ {t : State} (b : Nat) (f : Bool), b < 4 → t.InvParts → (if f = true then t.setReg b i v else t).InvParts := by
    intro t b f hb ht
    split
    · exact ht.setReg hb hi (fun _ => hl) v
    · exact ht
  exact step 2 _ (by decide) (step 1 _ (by decide) (step 0 _ (by decide) h))

end State.InvParts

theorem storeBanks_inRange {s : State} (h : s.regs.inRange 1024 = true) (sel : Select) {i : Nat} (hi : i < 256)
    (v : Word) : (storeBanks sel i v s).regs.inRange 1024 = true := by
  have step : ∀ {t : State} (b : Nat) (f : Bool), b < 4 → t.regs.inRange 1024 = true →
      (if f = true then t.setReg b i v else t).regs.inRange 1024 = true := by
    intro t b f hb ht
    split
    · exact Memory.inRange_write ht (by omega) v
    · exact ht
  exact step 2 _ (by decide) (step 1 _ (by decide) (step 0 _ (by decide) h))

/-- A store and the recompute after it (R131, R162, R383). -/
theorem State.InvParts.storeBanks_recomputeLayout {s : State} (h : s.InvParts) (sel : Select) {i : Nat} (hi : i < 256)
    (v : Word) : (Machine.recomputeLayout (Machine.storeBanks sel i v s)).InvParts := by
  have hr := storeBanks_inRange h.regs sel hi v
  rw [storeBanks_eq]
  exact recomputeLayout hr h.dac h.fbi h.tmu0 h.tmu1 h.cache

end Sys2Proof.Machine
end

section
/-! SUPPORT. Every operation of a texture unit and every stage of drawing keeps the invariant (R85, R88, R200). -/

namespace Sys2Proof.Machine

open Sys2Proof

/-! ## Texture units -/

theorem recomputeFrom_ok {t : Tmu} (h : t.ok = true) (c : Config) (m l d b : Word) :
    (recomputeFrom c m l d b t).ok = true := by
  obtain ⟨hm, hr, h0, h1, hp, ha, -⟩ := (Tmu.ok_iff _).mp h
  exact (Tmu.ok_iff _).mpr ⟨hm, hr, h0, h1, hp, ha, Memory.inRange_tabulate _ _⟩

theorem freshNcc_ok {n : Ncc} (h : n.ok = true) (c : Constants) : (freshNcc c n).ok = true := by
  unfold freshNcc
  split
  · obtain ⟨hy, h1, h2, h3, h4, h5, h6, -⟩ := (Ncc.ok_iff _).mp h
    exact (Ncc.ok_iff _).mpr ⟨hy, h1, h2, h3, h4, h5, h6, Memory.inRange_tabulate _ _⟩
  · exact h

theorem Tmu.ok_setNcc0 {t : Tmu} (h : t.ok = true) {n : Ncc} (hn : n.ok = true) :
    Tmu.ok { t with ncc0 := n } = true := by
  obtain ⟨hm, hr, -, h1, hp, ha, hl⟩ := (Tmu.ok_iff _).mp h
  exact (Tmu.ok_iff _).mpr ⟨hm, hr, hn, h1, hp, ha, hl⟩

theorem Tmu.ok_setNcc1 {t : Tmu} (h : t.ok = true) {n : Ncc} (hn : n.ok = true) :
    Tmu.ok { t with ncc1 := n } = true := by
  obtain ⟨hm, hr, h0, -, hp, ha, hl⟩ := (Tmu.ok_iff _).mp h
  exact (Tmu.ok_iff _).mpr ⟨hm, hr, h0, hn, hp, ha, hl⟩

theorem Tmu.ncc0_ok {t : Tmu} (h : t.ok = true) : t.ncc0.ok = true := ((Tmu.ok_iff _).mp h).2.2.1

theorem Tmu.ncc1_ok {t : Tmu} (h : t.ok = true) : t.ncc1.ok = true := ((Tmu.ok_iff _).mp h).2.2.2.1

theorem freshTables_ok {t : Tmu} (h : t.ok = true) (c : Constants) (mode : Word) : (freshTables c mode t).ok = true := by
  unfold freshTables
  split
  · split
    · exact Tmu.ok_setNcc1 h (freshNcc_ok (Tmu.ncc1_ok h) c)
    · exact Tmu.ok_setNcc0 h (freshNcc_ok (Tmu.ncc0_ok h) c)
  · exact h

/-- A coefficient register writes its table inside its sizes (R190). -/
theorem nccCoefficient_ok {n : Nat} (hn : n < 12) (k : TableFields) (data : Word) {t : Ncc} (h : t.ok = true) :
    (nccCoefficient k n data t).ok = true := by
  obtain ⟨hy, hir, hig, hib, hqr, hqg, hqb, ht⟩ := (Ncc.ok_iff _).mp h
  unfold nccCoefficient
  split
  · refine (Ncc.ok_iff _).mpr ⟨?_, hir, hig, hib, hqr, hqg, hqb, ht⟩
    refine Memory.inRange_write (Memory.inRange_write (Memory.inRange_write (Memory.inRange_write hy ?_ _) ?_ _) ?_ _)
      ?_ _ <;> omega
  · split
    · have hj : n - 4 < 4 := by omega
      exact (Ncc.ok_iff _).mpr ⟨hy, Memory.inRange_write hir hj _, Memory.inRange_write hig hj _,
        Memory.inRange_write hib hj _, hqr, hqg, hqb, ht⟩
    · have hj : n - 8 < 4 := by omega
      exact (Ncc.ok_iff _).mpr ⟨hy, hir, hig, hib, Memory.inRange_write hqr hj _, Memory.inRange_write hqg hj _,
        Memory.inRange_write hqb hj _, ht⟩

theorem paletteWrite_ok (c : Constants) (v2 : Bool) (n : Nat) (data : Word) {t : Tmu} (h : t.ok = true) :
    (paletteWrite c v2 n data t).ok = true := by
  obtain ⟨hm, hr, h0, h1, hp, ha, hl⟩ := (Tmu.ok_iff _).mp h
  have hi : ∀ i, i % 256 < 256 := fun i => Nat.mod_lt i (by decide)
  unfold paletteWrite
  simp only []
  split
  · exact (Tmu.ok_iff _).mpr ⟨hm, hr, h0, h1, Memory.inRange_write hp (hi _) _, Memory.inRange_write ha (hi _) _, hl⟩
  · exact (Tmu.ok_iff _).mpr ⟨hm, hr, h0, h1, Memory.inRange_write hp (hi _) _, ha, hl⟩

theorem nccWrite_ok {n : Nat} (hn : n < 12) (k : Constants) (v2 : Bool) (table : Fin 2) (data : Word) {t : Tmu}
    (h : t.ok = true) : (nccWrite k v2 table n data t).ok = true := by
  unfold nccWrite
  split
  · exact paletteWrite_ok _ _ _ _ h
  · split
    · exact Tmu.ok_setNcc0 h (nccCoefficient_ok hn _ _ (Tmu.ncc0_ok h))
    · exact Tmu.ok_setNcc1 h (nccCoefficient_ok hn _ _ (Tmu.ncc1_ok h))

theorem texWrite8_ok {t : Tmu} (h : t.ok = true) (a : Nat) (v : Byte) : (texWrite8 a v t).ok = true := by
  obtain ⟨hm, hr, hrest⟩ := (Tmu.ok_iff _).mp h
  exact (Tmu.ok_iff _).mpr ⟨hm, texWrite8_inRange hr a v, hrest⟩

theorem texWrite16_ok {t : Tmu} (h : t.ok = true) (a : Nat) (v : Half) : (texWrite16 a v t).ok = true :=
  texWrite8_ok (texWrite8_ok h _ _) _ _

theorem uploadStore_ok {t : Tmu} (h : t.ok = true) (k : Constants) (format : Nat) (offset d : Word) :
    (uploadStore k t format offset d).ok = true := by
  unfold uploadStore
  simp only []
  split
  · exact texWrite8_ok (texWrite8_ok (texWrite8_ok (texWrite8_ok h _ _) _ _) _ _) _ _
  · exact texWrite16_ok (texWrite16_ok h _ _) _ _

theorem setTex_ok (p : TexParam) (k : Part) (v : DWord) (t : Tmu) : (setTex p k v t).ok = t.ok := by cases p <;> rfl

theorem freshUnit_inv {s : State} (h : s.InvParts) (u : Nat) : (freshUnit u s).InvParts := by
  unfold freshUnit recomputeUnit
  split
  · exact h.setTmu u (recomputeFrom_ok (h.tmu u) _ _ _ _ _)
  · exact h

theorem forUnits_inv {s : State} (h : s.InvParts) (sel : Select) {change : Tmu → Tmu}
    (hc : ∀ t : Tmu, t.ok = true → (change t).ok = true) : (forUnits sel change s).InvParts := by
  have step0 : ∀ (f : Bool) {t : State}, t.InvParts →
      (if f = true then { t with tmu0 := change t.tmu0 } else t).InvParts := by
    intro f t ht
    split
    · exact ht.setTmu0 (hc _ ht.tmu0)
    · exact ht
  have step1 : ∀ (f : Bool) {t : State}, t.InvParts →
      (if f = true then { t with tmu1 := change t.tmu1 } else t).InvParts := by
    intro f t ht
    split
    · exact ht.setTmu1 (hc _ ht.tmu1)
    · exact ht
  exact step1 _ (step0 _ h)

/-! ## The stages of a pixel -/

theorem drawsOnly.inv {s t : State} (hd : drawsOnly s t) (h : s.InvParts) : t.InvParts := by
  obtain ⟨n, rfl⟩ := hd
  exact h.setControl _ _ _ _ _ _

theorem stippleRotate_inv {s : State} (h : s.InvParts) : (stippleRotate s).InvParts := by
  unfold stippleRotate
  simp only []
  split
  · exact h.setReg (by decide) (by decide) (fun _ => by decide) _
  · exact h

theorem pixelFront_inv {s : State} (h : s.InvParts) (x y : Nat) (z : Word) (w : DWord) :
    (pixelFront x y z w s).2.InvParts := by
  have h1 : (stippleRotate (count .pixelsIn s)).InvParts := stippleRotate_inv (h.count _)
  have h2 := (drawsOnly.of_state (depthRead_state (stippleRotate (count .pixelsIn s)) x (screenY s y))).inv h1
  unfold pixelFront
  simp only []
  split
  · exact h
  · split
    · exact h1.count _
    · split
      · exact h2
      · exact h2.count _

theorem writeOut_inv {s : State} (h : s.InvParts) (base : Option Word) (x y : Nat) (d : Depth) (c : Argb) :
    (writeOut base x y d c s).InvParts := by
  have step : ∀ (f : Bool) {t : State} (b : Option Word) (v : Half), t.InvParts →
      (if f = true then bufferWrite b x d.sy v t else t).InvParts := by
    intro f t b v ht
    split
    · exact ht.bufferWrite _ _ _ _
    · exact ht
  exact step _ _ _ (step _ _ _ h)

theorem pixelBack_inv {s : State} (h : s.InvParts) (base : Option Word) (x y : Nat) (d : Depth) (z : Word) (w : DWord)
    (ia c : Argb) : (pixelBack base x y d z w ia c s).InvParts :=
  (writeOut_inv ((alphaBlend_state _ _ _ _ _ _ _).inv h) _ _ _ _ _).count _

theorem texUnit_inv {u x y : Nat} {it : UnitIter} {o c : Argb} {s t : State} (h : s.InvParts)
    (ht : texUnit u x y it o s = .ok (c, t)) : t.InvParts := by
  unfold texUnit at ht
  simp only [] at ht
  split at ht
  · cases ht
  · cases ht
    exact h.setTmu u (freshTables_ok (h.tmu u) _ _)

theorem textureStep_inv {u x y : Nat} {it : UnitIter} {o c : Argb} {s t : State} (h : s.InvParts)
    (ht : textureStep u x y it o s = .ok (c, t)) : t.InvParts := by
  unfold textureStep at ht
  simp only [] at ht
  split at ht
  · exact texUnit_inv (freshUnit_inv h u) ht
  · cases ht
    exact freshUnit_inv h u

theorem textureStage_inv {n x y : Nat} {it0 it1 : UnitIter} {c : Argb} {s t : State} (h : s.InvParts)
    (ht : textureStage n x y it0 it1 s = .ok (c, t)) : t.InvParts := by
  have pass : ∀ {p : Prop} [Decidable p] {u : Nat} {it : UnitIter} {o c : Argb} {s t : State}, s.InvParts →
      (if p then textureStep u x y it o s else .ok (o, s)) = Except.ok (c, t) → t.InvParts := by
    intro p _ u it o c s t hs hp
    split at hp
    · exact textureStep_inv hs hp
    · cases hp
      exact hs
  unfold textureStage at ht
  simp only [] at ht
  split at ht
  · cases ht
  · rename_i first
    exact pass (pass h first) ht

theorem pixelColour_inv {s : State} (h : s.InvParts) (x y : Nat) (d : Depth) (it : PixelIter) (tex : Argb) :
    (pixelColour x y d it tex s).InvParts := by
  unfold pixelColour
  simp only []
  split
  · exact h.count _
  · split
    · exact h.count _
    · split
      · exact h.count _
      · exact pixelBack_inv h _ _ _ _ _ _ _ _

theorem pixel_inv {n x y : Nat} {it : PixelIter} {it0 it1 : UnitIter} {s t : State} (h : s.InvParts)
    (ht : pixel n x y it it0 it1 s = .next t) : t.InvParts := by
  have hfront := pixelFront_inv h x y it.z it.w
  unfold pixel at ht
  split at ht
  · rename_i e
    cases ht
    rw [e] at hfront
    exact hfront
  · rename_i e
    rw [e] at hfront
    split at ht
    · cases ht
    · rename_i hstage
      cases ht
      exact pixelColour_inv (textureStage_inv hfront hstage) _ _ _ _ _

theorem rasterize_inv {n : Snapshot} {s t : State} (h : s.InvParts) (ht : rasterize n s = .next t) : t.InvParts := by
  unfold rasterize at ht
  refine forRange_invariant (P := State.InvParts) (fun y u v _ _ hu hv => ?_) h ht
  unfold rasterRow at hv
  refine forRange_invariant (P := State.InvParts) (fun x u v _ _ hu hv => ?_) hu hv
  exact pixel_inv hu hv

/-! ## LFB writes and fastfill -/

theorem lfbPipelinePixel_inv {s : State} (h : s.InvParts) (base : Option Word) (x y : Nat) (p : LfbPixel) :
    (lfbPipelinePixel base x y p s).InvParts := by
  have hfront := pixelFront_inv h x y (p.z s.config.constants) (p.iw s.config.constants)
  unfold lfbPipelinePixel
  split
  · rename_i e
    rw [e] at hfront
    exact hfront
  · rename_i e
    rw [e] at hfront
    unfold lfbPipelineColour
    simp only []
    split
    · exact hfront.count _
    · split
      · exact hfront.count _
      · split
        · exact hfront.count _
        · exact pixelBack_inv hfront _ _ _ _ _ _ _ _

theorem rawColour_inv {s : State} (h : s.InvParts) (base : Option Word) (x y : Nat) (p : LfbPixel) :
    (rawColour base x y p s).InvParts := by
  unfold rawColour
  simp only []
  split
  · exact h.bufferWrite _ _ _ _
  · exact h

theorem rawAux_inv {s : State} (h : s.InvParts) (x y : Nat) (p : LfbPixel) : (rawAux x y p s).InvParts := by
  have step : ∀ (f : Bool) (v : Half), (if f = true then bufferWrite s.fbi.auxoffs x (lfbRow s y) v s else s).InvParts := by
    intro f v
    split
    · exact h.bufferWrite _ _ _ _
    · exact h
  unfold rawAux
  simp only []
  split
  · split
    · exact step _ _
    · exact step _ _
  · exact h

theorem lfbPixel_inv {s : State} (h : s.InvParts) (pipeline : Bool) (base : Option Word) (x y : Nat) (p : LfbPixel) :
    (lfbPixel pipeline base x y p s).InvParts := by
  unfold lfbPixel
  split
  · exact h
  · split
    · exact lfbPipelinePixel_inv h _ _ _ _
    · exact (rawAux_inv (rawColour_inv h _ _ _ _) _ _ _).count _

theorem lfbPixels_inv {s : State} (h : s.InvParts) (pipeline : Bool) (base : Option Word) (offset : Word) (w : LfbWord) :
    (lfbPixels pipeline base offset w s).InvParts := by
  unfold lfbPixels
  split
  · exact lfbPixel_inv h _ _ _ _ _
  · exact lfbPixel_inv (lfbPixel_inv h _ _ _ _ _) _ _ _ _ _

theorem fillPixel_inv {s : State} (h : s.InvParts) (x y : Nat) : (fillPixel x y s).InvParts := by
  have step : ∀ (f : Bool) {t : State} (b : Option Word) (v : State → Half), t.InvParts →
      (if f = true then bufferWrite b x (screenY s y) (v t) t else t).InvParts := by
    intro f t b v ht
    split
    · exact ht.bufferWrite _ _ _ _
    · exact ht
  exact step _ _ fillAux (step _ _ (fun _ => _) h)

theorem fillRow_inv {s : State} (h : s.InvParts) (sx n : Nat) (rgbOn : Bool) (y : Nat) :
    (fillRow sx n rgbOn y s).InvParts := by
  have hrow : (repeatFrom n sx (fun x => fillPixel x y) s).InvParts :=
    repeatFrom_invariant (P := State.InvParts) (fun x u hu => fillPixel_inv hu x y) _ _ h
  unfold fillRow
  simp only []
  split
  · exact hrow.setStats _
  · exact hrow

theorem fastfill_inv {s : State} (h : s.InvParts) : (fastfill s).InvParts := by
  unfold fastfill
  simp only []
  split
  · exact h
  · exact (repeatFrom_invariant (P := State.InvParts) (fun y u hu => fillRow_inv hu _ _ _ y) _ _ h).foldStats

end Sys2Proof.Machine
end

section
/-! SUPPORT. Every register effect, every operation and so every step keeps the invariant (O56). -/

namespace Sys2Proof.Machine

open Sys2Proof

/-! ## Triangles -/

/-- A change of the iterators of the FBI and of the units. -/
theorem State.InvParts.setIterators {s : State} (h : s.InvParts) {f : Fbi} {t0 t1 : Tmu} (hl : s.fbi.withLayout f = f)
    (hram : f.ram = s.fbi.ram) (hb : f.fogblend = s.fbi.fogblend) (hd : f.fogdelta = s.fbi.fogdelta)
    (h0 : t0.ok = s.tmu0.ok) (h1 : t1.ok = s.tmu1.ok) :
    State.InvParts { s with fbi := f, tmu0 := t0, tmu1 := t1 } :=
  ((h.setFbi_iterators hl hram hb hd).setTmu0 (h0.trans h.tmu0)).setTmu1 (h1.trans h.tmu1)

theorem adjusted_inv {s : State} (h : s.InvParts) : (adjusted s).InvParts := by
  unfold adjusted
  split
  · refine h.setIterators rfl rfl rfl rfl ?_ ?_ <;> (split <;> rfl)
  · exact h

/-- A resolve keeps the 97 buckets and the capacity (R270, R274). -/
theorem resolve_inv {n : Nat} {s t : State} (h : s.InvParts) (ht : resolve n s = some t) : t.InvParts := by
  obtain ⟨hregs, hdac, hfbi, hidx, h0, h1, hlay, hcache⟩ := h
  simp only [State.cacheOk, Bool.and_eq_true, decide_eq_true_eq] at hcache
  unfold resolve at ht
  split at ht
  · rename_i c hc
    cases ht
    refine ⟨hregs, hdac, hfbi, hidx, h0, h1, hlay, ?_⟩
    simp only [State.cacheOk, Bool.and_eq_true, decide_eq_true_eq]
    unfold Cache.resolve at hc
    split at hc
    · cases hc
      simpa only [Cache.hit, List.length_modify] using hcache
    · split at hc
      · cases hc
      · cases hc
        simp only [Cache.allocate, List.length_modify, List.length_append, List.length_singleton]
        omega
  · cases ht

theorem submitTriangle_inv {s t : State} (h : s.InvParts) (ht : submitTriangle s = .next t) : t.InvParts := by
  have ha := adjusted_inv h
  unfold submitTriangle at ht
  simp only [] at ht
  split at ht
  · cases ht
    exact ha.setResult _
  · split at ht
    · cases ht
      exact ha.setControl _ _ _ _ _ _
    · rename_i hres
      obtain ⟨u, hu, hdone⟩ := andThen_eq_next ht
      cases hdone
      have hr := rasterize_inv (resolve_inv ha hres) hu
      exact (hr.foldStats.setReg (by decide) (by decide) (fun _ => by decide) _).setResult _

theorem setupGradients_inv {s : State} (h : s.InvParts) : (setupGradients s).InvParts := by
  refine h.setIterators rfl rfl rfl rfl ?_ ?_ <;> (split <;> rfl)

theorem appendStrip_inv {s t : State} (h : s.InvParts) (ht : appendStrip s = .next t) : t.InvParts := by
  have hv : (appendVertex s).InvParts := h.setFbi_iterators rfl rfl rfl rfl
  have hs : ((appendVertex s).setFbi
      (setupVertices (appendVertex s).config.constants.vertexFrac (appendVertex s).fbi)).InvParts :=
    hv.setFbi_iterators rfl rfl rfl rfl
  unfold appendStrip setupAndDraw at ht
  simp only [] at ht
  split at ht
  · split at ht
    · cases ht
      exact hs.setResult _
    · split at ht
      · exact submitTriangle_inv hs ht
      · exact submitTriangle_inv (setupGradients_inv hs) ht
  · cases ht
    exact hv.setResult _

/-! ## Swap -/

/-- A rotation gives buffer indices that name buffers (R386). -/
theorem rotateBuffers_eq (f : Fbi) : ∃ i j, rotateBuffers f = { f with frontbuf := i, backbuf := j } ∧
    Fbi.indicesOk { f with frontbuf := i, backbuf := j } = true := by
  unfold rotateBuffers
  split
  · rename_i e
    refine ⟨_, _, rfl, ?_⟩
    simp only [Fbi.indicesOk, e, Option.isSome_none, Bool.false_or]
    split <;> decide
  · rename_i e
    exact ⟨_, _, rfl, by simp [Fbi.indicesOk, e]⟩

theorem rotateBuffers_inv {s : State} (h : s.InvParts) : (s.setFbi (rotateBuffers s.fbi)).InvParts := by
  obtain ⟨i, j, hrot, hij⟩ := rotateBuffers_eq s.fbi
  rw [hrot]
  exact ⟨h.regs, h.dac, h.fbi, hij, h.tmu0, h.tmu1, layoutOf_setIndices h.layout hij, h.cache⟩

theorem swapBuffers_inv {s : State} (h : s.InvParts) (value : Word) : (swapBuffers value s).InvParts := by
  have hr : (recordHistory s).InvParts := h.setReg (by decide) (by decide) (fun _ => by decide) _
  have hf : ((recordHistory s).setFbi (if noSwap value (recordHistory s) = true then (recordHistory s).fbi
      else rotateBuffers (recordHistory s).fbi)).InvParts := by
    split
    · exact hr
    · exact rotateBuffers_inv hr
  exact hf.setFbi_iterators rfl rfl rfl rfl

/-! ## Register effects -/

theorem setVertex_inv {s : State} (h : s.InvParts) (corner : Corner) (axis : Axis) (v : Half) :
    (s.setFbi (setVertex corner axis v s.fbi)).InvParts := by
  cases corner <;> exact h.setFbi_iterators rfl rfl rfl rfl

theorem setParam_inv {s : State} (h : s.InvParts) (p : Param) (k : Part) (v : Word) :
    (s.setFbi (setParam p k v s.fbi)).InvParts := by
  cases p <;> exact h.setFbi_iterators rfl rfl rfl rfl

theorem setFog_inv {s : State} (h : s.InvParts) {n : Nat} (hn : n < 32) (v : Word) :
    (s.setFbi (setFog n v s.fbi)).InvParts := by
  obtain ⟨-, hram, hb, hd⟩ := (Fbi.ok_iff _).mp h.fbi
  refine h.setFbi rfl hram (Memory.inRange_write (Memory.inRange_write hb ?_ _) ?_ _)
    (Memory.inRange_write (Memory.inRange_write hd ?_ _) ?_ _) <;> omega

theorem setW_inv {s : State} (h : s.InvParts) (sel : Select) (k : Part) (v : DWord) : (setW sel k v s).InvParts := by
  refine forUnits_inv ?_ sel fun t ht => ht
  unfold onFbi
  split
  · exact h.setFbi_iterators rfl rfl rfl rfl
  · exact h

theorem setupArgb_inv {s : State} (h : s.InvParts) (v : Word) : (setupArgb v s).InvParts := by
  unfold setupArgb
  refine State.InvParts.setReg (State.InvParts.setReg (State.InvParts.setReg (State.InvParts.setReg h ?_ ?_ ?_ _)
    ?_ ?_ ?_ _) ?_ ?_ ?_ _) ?_ ?_ ?_ _ <;> decide

theorem dacCommand_inv {s : State} (h : s.InvParts) (v : Word) :
    State.InvParts { s with dac := dacCommand s.config v s.dac } := by
  have hd : (dacCommand s.config v s.dac).reg.inRange 8 = true := by
    unfold dacCommand
    simp only []
    split
    · exact h.dac
    · exact Memory.inRange_write h.dac (Nat.mod_lt _ (by decide)) _
  exact ⟨h.regs, hd, h.fbi, h.indices, h.tmu0, h.tmu1, h.layout, h.cache⟩

/-- A fog or NCC effect stands for a register of its table (R157, R158). -/
def RegEffect.inTable : RegEffect → Bool
  | .fogTable n => decide (n < 32)
  | .ncc _ n => decide (n < 12)
  | _ => true

/-- The effect recomputes the layout (R162). -/
def RegEffect.lays : RegEffect → Bool
  | .layout => true
  | .layoutReset => true
  | _ => false

theorem effectOf_inTable {n : Nat} (hn : n < 256) : (effectOf n).inTable = true := by
  have : ∀ n : Fin 256, (effectOf n.val).inTable = true := by decide +kernel
  exact this ⟨n, hn⟩

/-- The registers of the layout are those whose write recomputes it (R162, R383). -/
theorem effectOf_lays {n : Nat} (hn : n < 256) : (effectOf n).lays = isFbiInit n := by
  have : ∀ n : Fin 256, (effectOf n.val).lays = isFbiInit n.val := by decide +kernel
  exact this ⟨n, hn⟩

theorem RegEffect.change_inv {e : RegEffect} (he : e.inTable = true) (hl : e.lays = false) {s : State} (h : s.InvParts)
    (sel : Select) (v : Word) : (e.change sel v s).InvParts := by
  have ifFbi : ∀ {t : State}, t.InvParts → (if sel.fbi = true then t else s).InvParts := by
    intro t ht
    split
    · exact ht
    · exact h
  cases e with
  | stored | triangle | setupDraw => exact h
  | vertex corner axis | vertexFloat corner axis => exact ifFbi (setVertex_inv h _ _ _)
  | param p k | paramFloat p k => exact ifFbi (setParam_inv h _ _ _)
  | tex p k | texFloat p k => exact forUnits_inv h sel fun t ht => (setTex_ok _ _ _ t).trans ht
  | w k | wFloat k => exact setW_inv h _ _ _
  | nop => exact ifFbi (h.counterReset _ _)
  | fastfill => exact ifFbi (fastfill_inv h)
  | swap => exact ifFbi (swapBuffers_inv h _)
  | setupBegin => exact ifFbi (h.setFbi_iterators rfl rfl rfl rfl)
  | setupArgb => exact ifFbi (setupArgb_inv h v)
  | fogTable n => exact ifFbi (setFog_inv h (of_decide_eq_true he) v)
  | ncc table n => exact forUnits_inv h sel fun t ht => nccWrite_ok (of_decide_eq_true he) _ _ _ _ ht
  | dac => exact ifFbi (dacCommand_inv h v)
  | texture => exact forUnits_inv (change := fun t => { t with regdirty := true }) h sel fun t ht => ht
  | layout | layoutReset => cases hl

theorem RegEffect.run_inv {e : RegEffect} (he : e.inTable = true) (hl : e.lays = false) {s t : State} (h : s.InvParts)
    {sel : Select} {v : Word} (ht : e.run sel v s = .next t) : t.InvParts := by
  unfold RegEffect.run at ht
  split at ht
  · split at ht
    · exact submitTriangle_inv h ht
    · cases ht
      exact h.setResult _
  · split at ht
    · exact appendStrip_inv h ht
    · cases ht
      exact h.setResult _
  · cases ht
    exact (RegEffect.change_inv he hl h sel v).setResult _

/-- The recompute after a store, and the counters under graphics_reset (R162). -/
theorem RegEffect.run_lays_inv {e : RegEffect} (hl : e.lays = true) {n : Nat} (hn : n < 256) {s t : State}
    (h : s.InvParts) {sel : Select} {v : Word} (ht : e.run sel v (writeStored n e sel v s) = .next t) : t.InvParts := by
  have hr := h.storeBanks_recomputeLayout sel hn v
  cases e with
  | layout =>
    cases ht
    exact hr.setResult _
  | layoutReset =>
    cases ht
    refine State.InvParts.setResult ?_ _
    simp only [RegEffect.change]
    split
    · exact hr.counterReset _ _
    · exact hr
  | _ => cases hl

/-! ## Register operations -/

theorem regWrite_inv {n : Nat} (hn : n < 256) {k : BitVec 4} {v : Word} {s t : State} (h : s.InvParts)
    (ht : regWrite n (effectOf n) k v s = .next t) : t.InvParts := by
  obtain ⟨-, ht⟩ := unlessFatal_next ht
  split at ht
  · cases ht
    exact h.setResult _
  · cases hl : (effectOf n).lays with
    | true => exact RegEffect.run_lays_inv hl hn h ht
    | false =>
      refine RegEffect.run_inv (effectOf_inTable hn) hl ?_ ht
      unfold writeStored
      split
      · exact h
      · exact h.storeBanks _ hn ((effectOf_lays hn).symm.trans hl) _

theorem writeMeaning_inv {n : Nat} (hn : n < 256) {k : BitVec 4} {v : Word} {s t : State} (h : s.InvParts)
    (ht : writeMeaning n k v s = .next t) : t.InvParts := by
  unfold writeMeaning at ht
  split at ht
  · obtain ⟨-, ht⟩ := unlessFatal_next ht
    cases ht
    exact h.setResult _
  · exact regWrite_inv hn h ht

/-- A read answers in the state it found, or after a draw or a fold (R139, R140). -/
theorem regRead_next {n : Nat} {k : BitVec 4} {s t : State} (ht : regRead n k s = .next t) :
    s.fatal = none ∧ ∃ r, t = { s with result := some r } ∨ t = { s.drawn with result := some r } ∨
      t = { foldStats s with result := some r } := by
  obtain ⟨hf, ht⟩ := unlessFatal_next ht
  refine ⟨hf, ?_⟩
  have same : ∀ {v}, answer v s = .next t → ∃ r, t = { s with result := some r } ∨
      t = { s.drawn with result := some r } ∨ t = { foldStats s with result := some r } :=
    fun {v} h => ⟨v, .inl (Host.Outcome.next.inj h).symm⟩
  have drawn : ∀ {v}, answer v s.drawn = .next t → ∃ r, t = { s with result := some r } ∨
      t = { s.drawn with result := some r } ∨ t = { foldStats s with result := some r } :=
    fun {v} h => ⟨v, .inr (.inl (Host.Outcome.next.inj h).symm)⟩
  split at ht
  · unfold readValue at ht
    split at ht
    · exact drawn ht
    · split at ht
      · exact ⟨_, .inr (.inr (Host.Outcome.next.inj ht).symm)⟩
      · split at ht
        · exact same ht
        · split at ht
          · exact same ht
          · split at ht
            · exact drawn ht
            · split at ht
              · unfold textureRead at ht
                split at ht
                · exact same ht
                · split at ht
                  · exact same ht
                  · exact drawn ht
              · exact same ht
  · exact same ht

theorem regRead_inv {n : Nat} {k : BitVec 4} {s t : State} (h : s.InvParts) (ht : regRead n k s = .next t) :
    t.InvParts := by
  obtain ⟨-, r, rfl | rfl | rfl⟩ := regRead_next ht
  · exact h.setResult _
  · exact h.drawn.setResult _
  · exact h.foldStats.setResult _

/-! ## The other operations -/

theorem lfbWrite_inv {offset v : Word} {m : BitVec 4} {s t : State} (h : s.InvParts)
    (ht : lfbWrite offset v m s = .next t) : t.InvParts := by
  unfold lfbWrite at ht
  simp only [] at ht
  split at ht
  · cases ht
    exact h.setResult _
  · split at ht
    · cases ht
      exact h.setResult _
    · cases ht
      exact (lfbPixels_inv h _ _ _ _).foldStats.setResult _

theorem textureUpload_inv {offset v : Word} {s t : State} (h : s.InvParts) (ht : textureUpload offset v s = .next t) :
    t.InvParts := by
  have hfresh := freshUnit_inv h (field offset 19 2)
  unfold textureUpload at ht
  simp only [] at ht
  split at ht
  · cases ht
    exact h.setResult _
  · split at ht
    · cases ht
    · split at ht
      · cases ht
        exact h.setResult _
      · cases ht
        exact (hfresh.setTmu _ (uploadStore_ok (hfresh.tmu _) _ _ _ _)).setResult _

/-! ## RESET (R420–R424) -/

theorem supportedSize_mask {n : Nat} (h : supportedSize n = true) : (BitVec.ofNat 32 (n - 1)).toNat + 1 = n := by
  simp only [supportedSize, Bool.or_eq_true, decide_eq_true_eq] at h
  rcases h with (rfl | rfl) | rfl <;> rfl

theorem nccFromRegisters_ok (k : TableFields) (regs : Memory 32) (bank base : Nat) :
    (nccFromRegisters k regs bank base).ok = true := by
  unfold nccFromRegisters
  refine List.foldlRecOn (motive := fun n : Ncc => n.ok = true) _ _ (by decide) fun n hn i hi => ?_
  exact nccCoefficient_ok (List.mem_range.mp hi) _ _ hn

theorem Tmu.ok_setDirty {t : Tmu} (h : t.ok = true) (d : Bool) : Tmu.ok { t with regdirty := d } = true := h

theorem resetUnit_ok {c : Config} (hs : supportedSize c.tmumemBytes = true) (regs : Memory 32) (u : Nat) {v : UnitValues}
    (hv : v.wf c = true) : (resetUnit c regs u v).ok = true := by
  simp only [UnitValues.wf, Bool.and_eq_true] at hv
  obtain ⟨⟨⟨⟨⟨hram, hramb⟩, hp⟩, hpb⟩, ha⟩, hab⟩ := hv
  have hm := supportedSize_mask hs
  unfold resetUnit
  refine Tmu.ok_setDirty (recomputeFrom_ok ?_ _ _ _ _ _) true
  refine (Tmu.ok_iff _).mpr ⟨?_, ?_, nccFromRegisters_ok _ _ _ _, nccFromRegisters_ok _ _ _ _,
    Memory.inRange_of_wf_below hp hpb, Memory.inRange_of_wf_below ha hab, ?_⟩
  · simp only [hm, hs]
  · simp only [hm]
    exact Memory.inRange_of_wf_below hram hramb
  · exact (by decide : Tmu.reset.lodoffset.inRange 9 = true)

/-- The values that RESET_POLICY supplies are in range once they have decoded (R421). -/
theorem resetValues_wf {c : Config} (q : ResetPolicy) (h : q.wf c = true) : (resetValues q).wf c = true := by
  cases q with
  | reference => rfl
  | arbitrary v => exact h

theorem resetTo_inv {c : Config} {q : ResetPolicy} (hq : q.wf c = true) (hfb : supportedSize c.fbmemBytes = true)
    (htm : supportedSize c.tmumemBytes = true) (s : State) : (resetTo c q s).InvParts := by
  have hv := resetValues_wf q hq
  simp only [ResetValues.wf, Bool.and_eq_true] at hv
  obtain ⟨⟨⟨⟨⟨⟨⟨⟨⟨⟨⟨hregs, hregsb⟩, hdac⟩, hdacb⟩, hram⟩, hramb⟩, hfog⟩, hfogb⟩, hdelta⟩, hdeltab⟩, h0⟩, h1⟩ :=
    hv
  have hm := supportedSize_mask hfb
  have hfbi : (resetFbi c (resetValues q)).ok = true := by
    refine (Fbi.ok_iff _).mpr ⟨?_, ?_, Memory.inRange_of_wf_below hfog hfogb, Memory.inRange_of_wf_below hdelta hdeltab⟩
    · simp only [resetFbi, hm, hfb]
    · simp only [resetFbi, hm]
      exact Memory.inRange_of_wf_below hram hramb
  refine State.InvParts.recomputeLayout (Memory.inRange_of_wf_below hregs hregsb)
    (Memory.inRange_of_wf_below hdac hdacb) hfbi (resetUnit_ok htm _ _ h0) (resetUnit_ok htm _ _ h1) ?_
  simp [State.cacheOk, State.reset, Cache.empty]

theorem resetBad_inv (c : Config) (s : State) : (resetBad c s).InvParts := by
  have h0 : Tmu.reset.ok = true := by decide
  refine State.InvParts.recomputeLayout rfl rfl (by decide : Fbi.reset.ok = true) h0 h0 ?_
  simp [State.cacheOk, State.reset, Cache.empty]

theorem execReset_inv {c : Config} {q : ResetPolicy} (hq : q.wf c = true) {s t : State}
    (ht : execReset c q s = .next t) : t.InvParts := by
  unfold execReset at ht
  split at ht
  · rename_i hsize
    cases ht
    simp only [Bool.and_eq_true] at hsize
    exact resetTo_inv hq hsize.1 hsize.2 s
  · cases ht
    exact resetBad_inv c s

/-! ## A step -/

/-- Every operation that decodes keeps the invariant. -/
theorem exec_inv {c : BusCycle} {i : Instr} (hd : decode c = .ok i) {s t : State} (h : s.InvParts)
    (ht : exec i s = .next t) : t.InvParts := by
  have generic : ∀ {o v : Word}, exec (.regWr o v) s = .next t → t.InvParts := fun {o _} hw =>
    regWrite_inv (effectiveIndex_lt s o) h hw
  have write : ∀ {o v : Word}, exec (decodeRegWr o v) s = .next t → t.InvParts := by
    intro o v hw
    cases ha : aliasable o with
    | true => exact generic (by simpa only [decodeRegWr, ha, if_true] using hw)
    | false =>
      rw [exec_decodeRegWr ha] at hw
      exact writeMeaning_inv (field_lt _ _ _) h hw
  cases c with
  | regWr o v =>
    cases hd
    exact write ht
  | grantedWr o v =>
    cases hd
    split at ht
    · exact generic ht
    · exact write ht
  | regRd o =>
    cases hd
    cases ha : aliasable o with
    | true =>
      simp only [decodeRegRd, ha, if_true, exec_regRd] at ht
      exact regRead_inv h ht
    | false =>
      rw [exec_decodeRegRd ha] at ht
      exact regRead_inv h ht
  | lfbWr o v m =>
    cases hd
    exact lfbWrite_inv h (unlessFatal_next ht).2
  | lfbRd o =>
    cases hd
    obtain ⟨-, hr⟩ := unlessFatal_next ht
    cases hr
    exact h.setResult _
  | texWr o v =>
    cases hd
    exact textureUpload_inv h (unlessFatal_next ht).2
  | pciIniten v =>
    cases hd
    have hr := (unlessFatal_next (k := fun s => done { s with initEnable := v }) ht).2
    cases hr
    exact h.setControl _ _ _ _ _ _
  | reset config policy =>
    simp only [decode] at hd
    split at hd
    · cases hd
    · split at hd
      · cases hd
      · rename_i hq
        cases hd
        exact execReset_inv (by simpa using hq) ht

/-- The translation of an answer to the host's layout changes the bus result alone. -/
theorem hostAnswer_next {s t : State} {c : BusCycle} {o : Answer} (ht : hostAnswer s c o = .next t) :
    ∃ u r, o = .next u ∧ t = { u with result := r } := by
  unfold hostAnswer at ht
  split at ht
  · simp only [] at ht
    split at ht
    · obtain ⟨u, hu, hr⟩ := andThen_eq_next ht
      cases hr
      exact ⟨u, _, hu, rfl⟩
    · exact ⟨t, _, ht, rfl⟩
  · exact ⟨t, _, ht, rfl⟩

/-- Settles O56: a step is one decoded operation, and every operation keeps each part of the invariant. -/
theorem stepKeepsTheStateInvariant : Obligations.StepKeepsTheStateInvariant := by
  intro s t hs ht
  rw [State.inv_iff] at hs ⊢
  unfold step at ht
  split at ht
  · cases ht
    exact hs
  · rename_i cycle rest _
    split at ht
    · cases ht
    · rename_i i hdecode
      obtain ⟨u, r, hu, rfl⟩ := hostAnswer_next ht
      exact (exec_inv hdecode (hs.setPending rest) hu).setResult r

end Sys2Proof.Machine
end

section
/-! SUPPORT. What every operation but RESET, PCI_INITEN and TEX_WR leaves alone, and which effects draw (O60). -/

namespace Sys2Proof.Machine

open Sys2Proof

/-! ## The frame of the bus -/

/-- What a register or framebuffer operation leaves alone: the control fields, bank 3 and both texture RAMs. -/
structure BusKeeps (s t : State) : Prop where
  config : t.config = s.config
  pciFifoSize : t.pciFifoSize = s.pciFifoSize
  pending : t.pending = s.pending
  initEnable : t.initEnable = s.initEnable
  bank3 : ∀ index, index < 256 → t.reg 3 index = s.reg 3 index
  ram0 : t.tmu0.ram = s.tmu0.ram
  ram1 : t.tmu1.ram = s.tmu1.ram

/-- What an operation that draws nothing leaves alone: framebuffer RAM as well. -/
structure Quiet (s t : State) : Prop extends BusKeeps s t where
  ram : t.fbi.ram = s.fbi.ram

namespace BusKeeps

variable {s t u : State}

theorem trans (h1 : BusKeeps s t) (h2 : BusKeeps t u) : BusKeeps s u where
  config := h2.config.trans h1.config
  pciFifoSize := h2.pciFifoSize.trans h1.pciFifoSize
  pending := h2.pending.trans h1.pending
  initEnable := h2.initEnable.trans h1.initEnable
  bank3 := fun i hi => (h2.bank3 i hi).trans (h1.bank3 i hi)
  ram0 := h2.ram0.trans h1.ram0
  ram1 := h2.ram1.trans h1.ram1

theorem of_draw (h : DrawKeeps s t) : BusKeeps s t where
  config := h.config
  pciFifoSize := h.pciFifoSize
  pending := h.pending
  initEnable := h.initEnable
  bank3 := fun i hi => h.regs 3 i (by decide) hi fun hp => absurd hp.1 (by decide)
  ram0 := (congrArg Tmu.ram h.tmu0 :)
  ram1 := (congrArg Tmu.ram h.tmu1 :)

end BusKeeps

namespace Quiet

variable {s t u : State}

theorem trans (h1 : Quiet s t) (h2 : Quiet t u) : Quiet s u :=
  { h1.toBusKeeps.trans h2.toBusKeeps with ram := h2.ram.trans h1.ram }

/-- A change of the FBI but its RAM, of the units but their RAM, and of the fields no clause names. -/
theorem of_fields (s : State) {f : Fbi} {t0 t1 : Tmu} (d : Dac) (c : Cache) (k : Stats) (q : Option FatalReason)
    (r : Option Word) (n : Nat) (hf : f.ram = s.fbi.ram) (h0 : t0.ram = s.tmu0.ram) (h1 : t1.ram = s.tmu1.ram) :
    Quiet s { s with
      fbi := f, tmu0 := t0, tmu1 := t1, dac := d, cache := c, stats := k, fatal := q, result := r, draws := n } :=
  ⟨⟨rfl, rfl, rfl, rfl, fun _ _ => rfl, h0, h1⟩, hf⟩

theorem refl (s : State) : Quiet s s := of_fields s _ _ _ _ _ _ rfl rfl rfl

theorem setResult (s : State) (r : Option Word) : Quiet s { s with result := r } :=
  of_fields s _ _ _ _ _ _ rfl rfl rfl

theorem setFbi {f : Fbi} (hf : f.ram = s.fbi.ram) : Quiet s (s.setFbi f) := of_fields s _ _ _ _ _ _ hf rfl rfl

theorem setReg (s : State) {b i : Nat} (hb : b < 3) (hi : i < 256) (v : Word) : Quiet s (s.setReg b i v) where
  config := rfl
  pciFifoSize := rfl
  pending := rfl
  initEnable := rfl
  bank3 := fun _ hj => State.reg_setReg_other s hi hj v (by omega)
  ram0 := rfl
  ram1 := rfl
  ram := rfl

theorem ite {c : Prop} [Decidable c] (h : Quiet s t) : Quiet s (if c then t else s) := by
  split
  · exact h
  · exact refl s

theorem storeBanks (s : State) (sel : Select) {i : Nat} (hi : i < 256) (v : Word) :
    Quiet s (Machine.storeBanks sel i v s) :=
  ((ite (setReg s (by decide) hi v)).trans (ite (setReg _ (by decide) hi v))).trans (ite (setReg _ (by decide) hi v))

theorem forUnits (s : State) (sel : Select) {change : Tmu → Tmu} (hc : ∀ t : Tmu, (change t).ram = t.ram) :
    Quiet s (Machine.forUnits sel change s) :=
  (ite (of_fields s _ _ _ _ _ _ rfl (hc _) rfl)).trans (ite (of_fields _ _ _ _ _ _ _ rfl rfl (hc _)))

theorem foldStats (s : State) : Quiet s (Machine.foldStats s) :=
  { BusKeeps.of_draw (DrawKeeps.foldStats s) with ram := rfl }

theorem clearStats (s : State) : Quiet s (Machine.clearStats s) where
  config := rfl
  pciFifoSize := rfl
  pending := rfl
  initEnable := rfl
  bank3 := by
    intro i hi
    unfold Machine.clearStats
    simp only [State.reg_setStats]
    iterate 5 rw [State.reg_setReg_other _ (by decide) hi _ (by simp)]
  ram0 := rfl
  ram1 := rfl
  ram := rfl

theorem counterReset (s : State) (clearAll clearTriangles : Bool) :
    Quiet s (Machine.counterReset clearAll clearTriangles s) :=
  (ite (clearStats s)).trans (ite (setReg _ (by decide) (by decide) _))

end Quiet

/-! ## Register effects -/

theorem setVertex_ram (corner : Corner) (axis : Axis) (v : Half) (f : Fbi) : (setVertex corner axis v f).ram = f.ram := by
  cases corner <;> rfl

theorem setParam_ram (p : Param) (k : Part) (v : Word) (f : Fbi) : (setParam p k v f).ram = f.ram := by cases p <;> rfl

theorem setTex_ram (p : TexParam) (k : Part) (v : DWord) (t : Tmu) : (setTex p k v t).ram = t.ram := by cases p <;> rfl

theorem nccWrite_ram (k : Constants) (v2 : Bool) (table : Fin 2) (n : Nat) (data : Word) (t : Tmu) :
    (nccWrite k v2 table n data t).ram = t.ram := by
  unfold nccWrite paletteWrite
  split
  · simp only []
    split <;> rfl
  · split <;> rfl

theorem setW_quiet (sel : Select) (k : Part) (v : DWord) (s : State) : Quiet s (setW sel k v s) := by
  have hfbi : Quiet s (onFbi sel (fun f => { f with w := f.w.set k v }) s) := by
    unfold onFbi
    exact Quiet.ite (Quiet.setFbi rfl)
  exact hfbi.trans (Quiet.forUnits (change := fun t => { t with w := t.w.set k v }) _ sel fun _ => rfl)

theorem setupArgb_quiet (v : Word) (s : State) : Quiet s (setupArgb v s) :=
  (((Quiet.setReg s (by decide) (by decide) _).trans (Quiet.setReg _ (by decide) (by decide) _)).trans
    (Quiet.setReg _ (by decide) (by decide) _)).trans (Quiet.setReg _ (by decide) (by decide) _)

theorem swapBuffers_quiet (v : Word) (s : State) : Quiet s (swapBuffers v s) := by
  refine (Quiet.setReg s (by decide) (by decide) _ : Quiet s (recordHistory s)).trans (Quiet.setFbi ?_)
  obtain ⟨i, j, hrot, -⟩ := rotateBuffers_eq (recordHistory s).fbi
  simp only [hrot]
  split <;> rfl

theorem recomputeLayout_quiet (s : State) : Quiet s (recomputeLayout s) := Quiet.setFbi (layoutOf_ram s s.fbi)

/-- The effects that draw pixels. -/
def RegEffect.draws : RegEffect → Bool
  | .triangle => true
  | .fastfill => true
  | .setupDraw => true
  | _ => false

theorem RegEffect.change_quiet {e : RegEffect} (he : e.draws = false) (sel : Select) (v : Word) (s : State) :
    Quiet s (e.change sel v s) := by
  cases e with
  | stored => exact Quiet.refl s
  | vertex corner axis | vertexFloat corner axis => exact Quiet.ite (Quiet.setFbi (setVertex_ram _ _ _ _))
  | param p k | paramFloat p k => exact Quiet.ite (Quiet.setFbi (setParam_ram _ _ _ _))
  | tex p k | texFloat p k => exact Quiet.forUnits s sel (setTex_ram _ _ _)
  | w k | wFloat k => exact setW_quiet sel _ _ s
  | nop => exact Quiet.ite (Quiet.counterReset s _ _)
  | swap => exact Quiet.ite (swapBuffers_quiet v s)
  | setupBegin => exact Quiet.ite (Quiet.setFbi rfl)
  | setupArgb => exact Quiet.ite (setupArgb_quiet v s)
  | fogTable n => exact Quiet.ite (Quiet.setFbi rfl)
  | ncc table n => exact Quiet.forUnits s sel (nccWrite_ram _ _ _ _ _)
  | dac => exact Quiet.ite (Quiet.of_fields s _ _ _ _ _ _ rfl rfl rfl)
  | texture => exact Quiet.forUnits (change := fun t => { t with regdirty := true }) s sel fun _ => rfl
  | layout => exact recomputeLayout_quiet s
  | layoutReset => exact (recomputeLayout_quiet s).trans (Quiet.ite (Quiet.counterReset _ _ _))
  | triangle | fastfill | setupDraw => cases he

/-! ## Triangles -/

theorem adjusted_quiet (s : State) : Quiet s (adjusted s) := by
  unfold adjusted
  split
  · refine Quiet.of_fields s _ _ _ _ _ _ rfl ?_ ?_ <;> (split <;> rfl)
  · exact Quiet.refl s

theorem resolve_quiet {n : Nat} {s t : State} (h : resolve n s = some t) : Quiet s t := by
  unfold resolve at h
  split at h
  · cases h
    exact Quiet.of_fields s _ _ _ _ _ _ rfl rfl rfl
  · cases h

theorem submitTriangle_keeps {s t : State} (ht : submitTriangle s = .next t) : BusKeeps s t := by
  refine (adjusted_quiet s).toBusKeeps.trans ?_
  unfold submitTriangle at ht
  simp only [] at ht
  split at ht
  · cases ht
    exact (Quiet.setResult _ _).toBusKeeps
  · split at ht
    · cases ht
      exact (Quiet.of_fields _ _ _ _ _ _ _ rfl rfl rfl).toBusKeeps
    · rename_i u hres
      obtain ⟨v, hv, hdone⟩ := andThen_eq_next ht
      cases hdone
      have hdraw := (resolve_quiet hres).toBusKeeps.trans (BusKeeps.of_draw (rasterize_next hv))
      exact hdraw.trans (((Quiet.foldStats v).trans (Quiet.setReg _ (by decide) (by decide) _)).trans
        (Quiet.setResult _ _)).toBusKeeps

theorem setupGradients_quiet (s : State) : Quiet s (setupGradients s) := by
  refine Quiet.of_fields s _ _ _ _ _ _ rfl ?_ ?_ <;> (split <;> rfl)

theorem appendStrip_keeps {s t : State} (ht : appendStrip s = .next t) : BusKeeps s t := by
  have hv : Quiet s (appendVertex s) := Quiet.setFbi rfl
  have hs : Quiet s ((appendVertex s).setFbi
      (setupVertices (appendVertex s).config.constants.vertexFrac (appendVertex s).fbi)) := hv.trans (Quiet.setFbi rfl)
  unfold appendStrip setupAndDraw at ht
  simp only [] at ht
  split at ht
  · split at ht
    · cases ht
      exact (hs.trans (Quiet.setResult _ _)).toBusKeeps
    · split at ht
      · exact hs.toBusKeeps.trans (submitTriangle_keeps ht)
      · exact (hs.trans (setupGradients_quiet _)).toBusKeeps.trans (submitTriangle_keeps ht)
  · cases ht
    exact (hv.trans (Quiet.setResult _ _)).toBusKeeps

/-! ## Register operations -/

theorem RegEffect.run_keeps {e : RegEffect} {sel : Select} {v : Word} {s t : State} (ht : e.run sel v s = .next t) :
    BusKeeps s t ∧ (e.draws = false → t.fbi.ram = s.fbi.ram) := by
  unfold RegEffect.run at ht
  split at ht
  · refine ⟨?_, fun he => by cases he⟩
    split at ht
    · exact submitTriangle_keeps ht
    · cases ht
      exact (Quiet.setResult _ _).toBusKeeps
  · refine ⟨?_, fun he => by cases he⟩
    split at ht
    · exact appendStrip_keeps ht
    · cases ht
      exact (Quiet.setResult _ _).toBusKeeps
  · rename_i htri hsetup
    cases ht
    cases he : e.draws with
    | false =>
      have hq := (RegEffect.change_quiet he sel v s).trans (Quiet.setResult _ none)
      exact ⟨hq.toBusKeeps, fun _ => hq.ram⟩
    | true =>
      cases e with
      | fastfill =>
        have hf : BusKeeps s (RegEffect.fastfill.change sel v s) := by
          simp only [RegEffect.change]
          split
          · exact BusKeeps.of_draw (fastfill_keeps s)
          · exact (Quiet.refl s).toBusKeeps
        exact ⟨hf.trans (Quiet.setResult _ _).toBusKeeps, fun h => by cases h⟩
      | triangle => exact absurd rfl htri
      | setupDraw => exact absurd rfl hsetup
      | _ => cases he

theorem regWrite_keeps {n : Nat} (hn : n < 256) {e : RegEffect} {k : BitVec 4} {v : Word} {s t : State}
    (ht : regWrite n e k v s = .next t) : BusKeeps s t ∧ (e.draws = false → t.fbi.ram = s.fbi.ram) := by
  obtain ⟨-, ht⟩ := unlessFatal_next ht
  split at ht
  · cases ht
    exact ⟨(Quiet.setResult _ _).toBusKeeps, fun _ => rfl⟩
  · have hs : Quiet s (writeStored n e (selectOf s.config k) v s) := by
      unfold writeStored
      split
      · exact Quiet.refl s
      · exact Quiet.storeBanks s _ hn v
    obtain ⟨hk, hr⟩ := RegEffect.run_keeps ht
    exact ⟨hs.toBusKeeps.trans hk, fun he => (hr he).trans hs.ram⟩

/-- The four registers whose write draws (R149, R150, R152, R156). -/
theorem effectOf_draws {n : Nat} (hn : n < 256) : (effectOf n).draws = decide (n ∈ [0x20, 0x40, 0x49, 0xA8]) := by
  have : ∀ n : Fin 256, (effectOf n.val).draws = decide (n.val ∈ [0x20, 0x40, 0x49, 0xA8]) := by decide +kernel
  exact this ⟨n, hn⟩

theorem writeMeaning_keeps {n : Nat} (hn : n < 256) {k : BitVec 4} {v : Word} {s t : State}
    (ht : writeMeaning n k v s = .next t) :
    BusKeeps s t ∧ (t.fbi.ram = s.fbi.ram ∨ n ∈ [0x20, 0x40, 0x49, 0xA8]) := by
  unfold writeMeaning at ht
  split at ht
  · obtain ⟨-, ht⟩ := unlessFatal_next ht
    cases ht
    exact ⟨(Quiet.setResult _ _).toBusKeeps, .inl rfl⟩
  · obtain ⟨hk, hr⟩ := regWrite_keeps hn ht
    refine ⟨hk, ?_⟩
    rw [effectOf_draws hn, decide_eq_false_iff_not] at hr
    exact (em _).symm.imp_left hr

theorem regRead_quiet {n : Nat} {k : BitVec 4} {s t : State} (ht : regRead n k s = .next t) : Quiet s t := by
  obtain ⟨-, r, rfl | rfl | rfl⟩ := regRead_next ht
  · exact Quiet.setResult s _
  · exact Quiet.of_fields s _ _ _ _ _ _ rfl rfl rfl
  · exact (Quiet.foldStats s).trans (Quiet.setResult _ _)

/-- A read changes no slot but the statistics registers (R140). -/
theorem regRead_reg {n : Nat} {k : BitVec 4} {s t : State} (ht : regRead n k s = .next t) {bank index : Nat}
    (hi : index < 256) (hp : ¬ pipelineRegister bank index) : t.reg bank index = s.reg bank index := by
  obtain ⟨-, r, rfl | rfl | rfl⟩ := regRead_next ht
  · rfl
  · rfl
  · exact foldStats_reg_other hi fun h => hp ⟨h.1, .inr h.2⟩

/-! ## Framebuffer and texture writes -/

theorem lfbWrite_keeps {offset v : Word} {m : BitVec 4} {s t : State} (ht : lfbWrite offset v m s = .next t) :
    DrawKeeps s t := by
  unfold lfbWrite at ht
  simp only [] at ht
  split at ht
  · cases ht
    exact DrawKeeps.of_counters s _ _ _
  · split at ht
    · cases ht
      exact DrawKeeps.of_counters s _ _ _
    · cases ht
      exact ((lfbPixels_keeps _ _ _ _ _).trans (DrawKeeps.foldStats _)).trans (DrawKeeps.of_counters _ _ _ none)

/-- TEX_WR changes its unit, the bus result and nothing else (R192). -/
theorem textureUpload_next {offset v : Word} {s t : State} (ht : textureUpload offset v s = .next t) :
    t = { s with tmu0 := t.tmu0, tmu1 := t.tmu1, result := t.result } := by
  have hset : ∀ (u : Nat) (w : State) (x : Tmu), w.setTmu u x =
      { w with tmu0 := (w.setTmu u x).tmu0, tmu1 := (w.setTmu u x).tmu1 } := by
    intro u w x
    unfold State.setTmu
    split <;> rfl
  have hfresh : ∀ u : Nat, freshUnit u s =
      { s with tmu0 := (freshUnit u s).tmu0, tmu1 := (freshUnit u s).tmu1 } := by
    intro u
    unfold freshUnit recomputeUnit
    split
    · exact hset _ _ _
    · rfl
  unfold textureUpload at ht
  simp only [] at ht
  split at ht
  · cases ht
    rfl
  · split at ht
    · cases ht
    · split at ht
      · cases ht
        rfl
      · cases ht
        rw [hset, hfresh]

/-! ## Every instruction -/

/-- A row of the table that draws is one of the four drawing commands (R108). -/
theorem writeRow_draws {n : Nat} {row : BitVec 4 → Word → Instr} (hrow : writeRows[n]? = some row)
    (hn : n ∈ [0x20, 0x40, 0x49, 0xA8]) (k : BitVec 4) (v : Word) :
    row k v ∈ [Instr.triangleCMD k v, .ftriangleCMD k v, .fastfillCMD k v, .sDrawTriCMD k v] := by
  simp only [List.mem_cons, List.not_mem_nil, or_false] at hn
  rcases hn with rfl | rfl | rfl | rfl <;> cases hrow <;> simp

/-- Settles O60: each kind of instruction keeps its frame. -/
theorem onlyTheirOperationsReachThem : Obligations.OnlyTheirOperationsReachThem := by
  intro i s t ht hreset
  obtain hbus | hread | hwrite := instr_cases i
  · obtain ⟨o, v, rfl⟩ | ⟨o, rfl⟩ | ⟨o, v, m, rfl⟩ | ⟨o, rfl⟩ | ⟨o, v, rfl⟩ | ⟨v, rfl⟩ | ⟨c, q, rfl⟩ := hbus
    · obtain ⟨hk, hr⟩ := regWrite_keeps (effectiveIndex_lt s o) (ht : regWrite _ _ _ _ _ = _)
      rw [effectOf_draws (effectiveIndex_lt s o), decide_eq_false_iff_not] at hr
      refine ⟨hk.config, hk.pciFifoSize, hk.pending, .inl hk.initEnable, hk.bank3, ?_, .inl ⟨hk.ram0, hk.ram1⟩, .inl ?_⟩
      · exact (em _).symm.imp hr fun hn => .inr (.inr ⟨o, v, rfl, hn⟩)
      · refine ⟨o, v, ?_⟩
        simp only [encode]
        split
        · exact .inl rfl
        · exact .inr rfl
    · have hk := regRead_quiet (ht : regRead _ _ _ = _)
      exact ⟨hk.config, hk.pciFifoSize, hk.pending, .inl hk.initEnable, hk.bank3, .inl hk.ram, .inl ⟨hk.ram0, hk.ram1⟩,
        .inr fun b j _ hj hp => regRead_reg (ht : regRead _ _ _ = _) hj hp⟩
    · have hd := lfbWrite_keeps (unlessFatal_next ht).2
      have hk := BusKeeps.of_draw hd
      exact ⟨hk.config, hk.pciFifoSize, hk.pending, .inl hk.initEnable, hk.bank3, .inr (.inr (.inl ⟨o, v, m, rfl⟩)),
        .inl ⟨hk.ram0, hk.ram1⟩, .inr hd.regs⟩
    · have hr := (unlessFatal_next (k := lfbRead o) ht).2
      cases hr
      exact ⟨rfl, rfl, rfl, .inl rfl, fun _ _ => rfl, .inl rfl, .inl ⟨rfl, rfl⟩, .inr fun _ _ _ _ _ => rfl⟩
    · rw [textureUpload_next (unlessFatal_next ht).2]
      exact ⟨rfl, rfl, rfl, .inl rfl, fun _ _ => rfl, .inl rfl, .inr ⟨o, v, rfl⟩, .inr fun _ _ _ _ _ => rfl⟩
    · have hr := (unlessFatal_next (k := fun s => done { s with initEnable := v }) ht).2
      cases hr
      exact ⟨rfl, rfl, rfl, .inr ⟨v, rfl⟩, fun _ _ => rfl, .inl rfl, .inl ⟨rfl, rfl⟩, .inr fun _ _ _ _ _ => rfl⟩
    · exact absurd rfl (hreset c q)
  · obtain ⟨n, -, hexec⟩ := hread
    rw [hexec] at ht
    have hk := regRead_quiet ht
    exact ⟨hk.config, hk.pciFifoSize, hk.pending, .inl hk.initEnable, hk.bank3, .inl hk.ram, .inl ⟨hk.ram0, hk.ram1⟩,
      .inr fun b j _ hj hp => regRead_reg ht hj hp⟩
  · obtain ⟨n, row, k, v, hencode, hrow, rfl⟩ := hwrite
    rw [exec_writeRow hrow] at ht
    obtain ⟨hk, hr⟩ := writeMeaning_keeps n.isLt ht
    exact ⟨hk.config, hk.pciFifoSize, hk.pending, .inl hk.initEnable, hk.bank3,
      hr.imp_right fun hn => .inl ⟨k, v, writeRow_draws hrow hn k v⟩, .inl ⟨hk.ram0, hk.ram1⟩,
      .inl ⟨_, _, .inl hencode⟩⟩

end Sys2Proof.Machine
end

section
/-! SUPPORT. The register bus read and written at one index: dropped writes (O7), computed reads (O44), a read after a
write (O10). -/

namespace Sys2Proof.Machine

open Sys2Proof

/-! ## Dropped writes (R132, R401) -/

theorem exec_unwritable {n : Nat} {row : BitVec 4 → Word → Instr} (hrow : writeRows[n]? = some row) {s : State}
    (hf : s.fatal = none) (hw : writable s.config n = false) (k : BitVec 4) (v : Word) :
    exec (row k v) s = .next { s with result := none } := by
  rw [exec_writeRow hrow, writeMeaning, regWrite_unwritable hw, ite_self, reservedWrite_eq hf]

theorem not_writable_readOnly {c : Config} (ha : c.access = none) {n : Nat}
    (hn : n ∈ [0x00, 0x53, 0x54, 0x55, 0x56, 0x57, 0x81, 0x90, 0x96, 0x97]) : writable c n = false := by
  have hd : ∀ v : Variant, ∀ n ∈ [0x00, 0x53, 0x54, 0x55, 0x56, 0x57, 0x81, 0x90, 0x96, 0x97],
      bit (defaultAccess v n) 1 = false := by
    intro v; cases v <;> decide
  simp only [writable, accessFlags, ha]
  exact hd _ n hn

/-- Settles O7: a read-only register and a reserved index have no write right, so the write is dropped. -/
theorem readOnlyAndReservedWritesDoNothing : Obligations.ReadOnlyAndReservedWritesDoNothing := by
  constructor
  · intro p hp k v s hf ha
    have hrow : writeRows[p.1]? = some p.2 ∧ p.1 ∈ [0x00, 0x53, 0x54, 0x55, 0x56, 0x57, 0x81, 0x90, 0x96, 0x97] := by
      fin_cases hp <;> exact ⟨rfl, by decide⟩
    exact exec_unwritable hrow.1 hf (not_writable_readOnly ha hrow.2) k v
  · intro i hi s hf
    have hmeaning : exec i s = reservedWrite s := by
      fin_cases hi <;> rfl
    rw [hmeaning, reservedWrite_eq hf]

/-! ## Reads under the default access table -/

theorem readable_default {c : Config} (ha : c.access = none) {n : Nat}
    (hn : n ∈ [0x00, 0x53, 0x54, 0x55, 0x56, 0x57, 0x81, 0x86]) : readable c n = true := by
  have hd : ∀ v : Variant, ∀ n ∈ [0x00, 0x53, 0x54, 0x55, 0x56, 0x57, 0x81, 0x86],
      bit (defaultAccess v n) 0 = true := by
    intro v; cases v <;> decide
  simp only [readable, accessFlags, ha]
  exact hd _ n hn

/-- The three reads that V2 alone has (R139, R236, R387). -/
theorem readable_v2 {c : Config} (ha : c.access = none) {n : Nat} (hn : n ∈ [0x90, 0x96, 0x97]) :
    readable c n = decide (c.variant = .v2) := by
  have hd : ∀ v : Variant, ∀ n ∈ [0x90, 0x96, 0x97], bit (defaultAccess v n) 0 = decide (v = .v2) := by
    intro v; cases v <;> decide
  simp only [readable, accessFlags, ha]
  exact hd _ n hn

/-! ## The value of a read -/

theorem readValue_status (k : BitVec 4) (s : State) :
    readValue 0x00 k s = answer (statusValue s.fbi (Config.drawRetrace s.draws)) s.drawn := rfl

theorem readValue_stat {n : Nat} (h : Reg.fbiPixelsIn ≤ n ∧ n ≤ Reg.fbiPixelsOut) (k : BitVec 4) (s : State) :
    readValue n k s = answer ((foldStats s).reg 0 n &&& statMask s.config) (foldStats s) := by
  have h0 : n ≠ Reg.status := by rintro rfl; exact absurd h (by decide)
  unfold readValue
  rw [if_neg h0, if_pos h]
  rfl

theorem readValue_timing {n : Nat} (h : n = Reg.vRetrace ∨ n = Reg.hvRetrace) (k : BitVec 4) (s : State) :
    readValue n k s = answer (Config.drawTiming s.draws) s.drawn := by
  rcases h with rfl | rfl <;> rfl

theorem readValue_fbiTrianglesOut (k : BitVec 4) (s : State) :
    readValue 0x97 k s = answer (s.reg 0 0x97 &&& statMask s.config) s := rfl

/-- The read of a register that is not computed returns the slot of bank 0 (R139). -/
theorem readValue_slot {n : Nat} (hc : n ∉ [0x00, 0x53, 0x54, 0x55, 0x56, 0x57, 0x81, 0x90, 0x97]) {s : State}
    (hd : readsDac s n = false) (ht : textureOnly n = false) (k : BitVec 4) :
    readValue n k s = answer (s.reg 0 n) s := by
  simp only [List.mem_cons, List.not_mem_nil, or_false, not_or] at hc
  have hstat : ¬(Reg.fbiPixelsIn ≤ n ∧ n ≤ Reg.fbiPixelsOut) := by
    simp only [Reg.fbiPixelsIn, Reg.fbiPixelsOut]; omega
  have htiming : ¬(n = Reg.vRetrace ∨ n = Reg.hvRetrace) := by
    simp only [Reg.vRetrace, Reg.hvRetrace]; omega
  unfold readValue
  rw [if_neg (by simp only [Reg.status]; omega), if_neg hstat, if_neg (by simp only [Reg.fbiTrianglesOut]; omega), hd,
    if_neg Bool.false_ne_true, if_neg htiming, ht, if_neg Bool.false_ne_true]

theorem readValue_dac {s : State} (hd : readsDac s 0x86 = true) (k : BitVec 4) :
    readValue 0x86 k s = answer (s.dac.readResult.setWidth 32) s := by
  unfold readValue
  rw [if_neg (by decide), if_neg (by decide), if_neg (by decide), if_pos hd]

theorem readsDac_fbiInit2 (s : State) : readsDac s 0x86 = bit s.initEnable s.config.constants.dacReadBit.val := by
  simp [readsDac, Reg.fbiInit2]

/-! ## The fold (R140) -/

theorem State.reg_setReg_same {s : State} (hw : s.regs.wf = true) (b i : Nat) (v : Word) :
    (s.setReg b i v).reg b i = v := Memory.read_write_same hw _ _

theorem State.reg_setReg_ne (s : State) {b i j : Nat} (hi : i < 256) (hj : j < 256) (hne : j ≠ i) (v : Word) :
    (s.setReg b i v).reg b j = s.reg b j := State.reg_setReg_other s hi hj v fun h => hne h.2

/-- The fold moves each counter into its register. -/
theorem foldStats_reg {s : State} (hw : s.regs.wf = true) :
    (foldStats s).reg 0 Reg.fbiPixelsIn = s.pixelsInTotal ∧
      (foldStats s).reg 0 Reg.fbiChromaFail = s.chromaFailTotal ∧
      (foldStats s).reg 0 Reg.fbiZfuncFail = s.zfuncFailTotal ∧
      (foldStats s).reg 0 Reg.fbiAfuncFail = s.afuncFailTotal ∧
      (foldStats s).reg 0 Reg.fbiPixelsOut = s.pixelsOutTotal := by
  have h1 := State.wf_setReg hw 0 Reg.fbiPixelsIn (s.reg 0 Reg.fbiPixelsIn + s.stats.pixelsIn)
  have h2 := State.wf_setReg h1 0 Reg.fbiChromaFail (s.reg 0 Reg.fbiChromaFail + s.stats.chromaFail)
  have h3 := State.wf_setReg h2 0 Reg.fbiZfuncFail (s.reg 0 Reg.fbiZfuncFail + s.stats.zfuncFail)
  have h4 := State.wf_setReg h3 0 Reg.fbiAfuncFail (s.reg 0 Reg.fbiAfuncFail + s.stats.afuncFail)
  simp (disch := decide) only [foldStats, State.reg_setStats, State.reg_setReg_ne]
  exact ⟨State.reg_setReg_same hw _ _ _, State.reg_setReg_same h1 _ _ _, State.reg_setReg_same h2 _ _ _,
    State.reg_setReg_same h3 _ _ _, State.reg_setReg_same h4 _ _ _⟩

/-- The fold keeps every total, the stipple counter and the triangle counter. -/
theorem foldStats_totals {s : State} (hw : s.regs.wf = true) :
    (foldStats s).pixelsInTotal = s.pixelsInTotal ∧ (foldStats s).chromaFailTotal = s.chromaFailTotal ∧
      (foldStats s).zfuncFailTotal = s.zfuncFailTotal ∧ (foldStats s).afuncFailTotal = s.afuncFailTotal ∧
      (foldStats s).pixelsOutTotal = s.pixelsOutTotal := by
  have hzero : ∀ w : Word, w + 0 = w := BitVec.add_zero
  obtain ⟨h1, h2, h3, h4, h5⟩ := foldStats_reg hw
  exact ⟨(hzero _).trans h1, (hzero _).trans h2, (hzero _).trans h3, (hzero _).trans h4, (hzero _).trans h5⟩

/-! ## Computed reads -/

theorem exec_read_eq {n : Nat} {s : State} (hf : s.fatal = none) (hr : readable s.config n = true) {v : Word} {u : State}
    (hv : readValue n 0 s = answer v u) : regRead n 0 s = .next { u with result := some v } := by
  rw [regRead_readable hf hr, hv]
  rfl

theorem statusValue_fields (f : Fbi) (r : Bool) :
    field (statusValue f r) 0 6 = 0x3F ∧ bit (statusValue f r) 6 = r ∧ field (statusValue f r) 7 3 = 0 ∧
      field (statusValue f r) 10 2 = f.frontbuf.val ∧ field (statusValue f r) 12 16 = 0xFFFF ∧
      field (statusValue f r) 28 4 = 0 := by
  unfold statusValue
  generalize f.frontbuf = i
  revert i r
  decide

/-- The read of a statistics register whose fold gives `total` (R140). -/
theorem regRead_stat {n : Nat} (hn : Reg.fbiPixelsIn ≤ n ∧ n ≤ Reg.fbiPixelsOut) {s : State} (hf : s.fatal = none)
    (hr : readable s.config n = true) (hw : s.regs.wf = true) {total : Word} (htotal : (foldStats s).reg 0 n = total) :
    ∃ t, regRead n 0 s = .next t ∧ t.result = some (total &&& BitVec.ofNat 32 (2 ^ s.config.statBits - 1)) ∧
      t = { s with regs := t.regs, stats := t.stats, result := t.result } ∧
      (∀ bank i, bank < 4 → i < 256 → ¬ (bank = 0 ∧ Reg.fbiPixelsIn ≤ i ∧ i ≤ Reg.fbiPixelsOut) →
        t.reg bank i = s.reg bank i) ∧
      t.pixelsInTotal = s.pixelsInTotal ∧ t.chromaFailTotal = s.chromaFailTotal ∧
      t.zfuncFailTotal = s.zfuncFailTotal ∧ t.afuncFailTotal = s.afuncFailTotal ∧
      t.pixelsOutTotal = s.pixelsOutTotal ∧ t.stats.stippleCount = s.stats.stippleCount := by
  obtain ⟨h1, h2, h3, h4, h5⟩ := foldStats_totals hw
  refine ⟨_, exec_read_eq hf hr (readValue_stat hn 0 s), ?_, rfl, ?_, h1, h2, h3, h4, h5, rfl⟩
  · rw [htotal]
    rfl
  · exact fun bank i _ hi hne => foldStats_reg_other hi hne

/-- Settles O44: each computed read is the one read path at its index. -/
theorem computedReadsAnswer : Obligations.ComputedReadsAnswer := by
  refine ⟨fun s hf ha => ?_, fun p hp s hf ha hw => ?_, rfl⟩
  · have v2 : ∀ {n}, n ∈ [0x90, 0x96, 0x97] → s.config.variant = .v2 → readable s.config n = true := fun hn hv => by
      rw [readable_v2 ha hn, hv]; rfl
    have v1 : ∀ {n}, n ∈ [0x90, 0x96, 0x97] → s.config.variant = .v1 → readable s.config n = false := fun hn hv => by
      rw [readable_v2 ha hn, hv]; rfl
    refine ⟨?_, ?_, ?_, fun hv => ⟨?_, ?_, ?_⟩, fun hv i hi => ?_⟩
    · exact ⟨_, _, exec_read_eq hf (readable_default ha (by decide)) (readValue_status 0 s), rfl,
        statusValue_fields s.fbi _⟩
    · have hr := readable_default (n := 0x86) ha (by decide)
      cases hd : readsDac s 0x86 with
      | true =>
        rw [if_pos ((readsDac_fbiInit2 s).symm.trans hd)]
        exact exec_read_eq hf hr (readValue_dac hd 0)
      | false =>
        rw [if_neg (by rw [← readsDac_fbiInit2, hd]; decide)]
        exact exec_read_eq hf hr (readValue_slot (by decide) hd (by decide) 0)
    · exact exec_read_eq hf (readable_default ha (by decide)) (readValue_timing (.inl rfl) 0 s)
    · exact exec_read_eq hf (v2 (by decide) hv) (readValue_timing (.inr rfl) 0 s)
    · exact exec_read_eq hf (v2 (by decide) hv) (readValue_slot (by decide) (by simp [readsDac]) (by decide) 0)
    · exact exec_read_eq hf (v2 (by decide) hv) (readValue_fbiTrianglesOut 0 s)
    · fin_cases hi
      · exact regRead_unreadable hf (v1 (by decide) hv) 0
      · exact regRead_unreadable hf (v1 (by decide) hv) 0
      · exact regRead_unreadable hf (v1 (by decide) hv) 0
  · obtain ⟨h1, h2, h3, h4, h5⟩ := foldStats_reg hw
    fin_cases hp
    · exact regRead_stat (by decide) hf (readable_default ha (by decide)) hw h1
    · exact regRead_stat (by decide) hf (readable_default ha (by decide)) hw h2
    · exact regRead_stat (by decide) hf (readable_default ha (by decide)) hw h3
    · exact regRead_stat (by decide) hf (readable_default ha (by decide)) hw h4
    · exact regRead_stat (by decide) hf (readable_default ha (by decide)) hw h5

/-! ## A read after a write (R24, R160, R164) -/

theorem exec_of_decode_regWr {n : BitVec 8} {k : BitVec 4} {v : Word} {i : Instr}
    (hd : decode (.regWr (regOffset n k) v) = .ok i) (s : State) : exec i s = writeMeaning n.toNat k v s := by
  cases hd
  rw [exec_decodeRegWr (aliasable_regOffset n k), field_regOffset, offsetChips_regOffset]

theorem exec_of_decode_regRd {n : BitVec 8} {k : BitVec 4} {i : Instr}
    (hd : decode (.regRd (regOffset n k)) = .ok i) (s : State) : exec i s = regRead n.toNat k s := by
  cases hd
  rw [exec_decodeRegRd (aliasable_regOffset n k), field_regOffset, offsetChips_regOffset]

/-- The registers that the default table lets both read and write: no computed read but fbiInit2's, no effect but the
layout's and the counters' (R30, R31). -/
theorem readWrite_default {c : Config} (ha : c.access = none) {n : Nat} (hn : n < 256) (hr : readable c n = true)
    (hw : writable c n = true) :
    n ∉ [0x00, 0x53, 0x54, 0x55, 0x56, 0x57, 0x81, 0x90, 0x97] ∧ textureOnly n = false ∧ reservedIndex n = false ∧
      effectOf n ∈ [RegEffect.stored, .layout, .layoutReset] := by
  have hd : ∀ (v : Variant) (n : Fin 256), bit (defaultAccess v n.val) 0 = true → bit (defaultAccess v n.val) 1 = true →
      n.val ∉ [0x00, 0x53, 0x54, 0x55, 0x56, 0x57, 0x81, 0x90, 0x97] ∧ textureOnly n.val = false ∧
        reservedIndex n.val = false ∧ effectOf n.val ∈ [RegEffect.stored, .layout, .layoutReset] := by
    intro v; cases v <;> decide +kernel
  simp only [readable, writable, accessFlags, ha] at hr hw
  exact hd _ ⟨n, hn⟩ hr hw

/-- The counter reset touches the statistics registers and fbiTrianglesOut alone (R151, R162). -/
theorem counterReset_reg_other (s : State) (clearAll clearTriangles : Bool) {i : Nat} (hi : i < 256)
    (hs : ¬(Reg.fbiPixelsIn ≤ i ∧ i ≤ Reg.fbiPixelsOut)) (ht : i ≠ Reg.fbiTrianglesOut) :
    (counterReset clearAll clearTriangles s).reg 0 i = s.reg 0 i := by
  have hclear : (clearStats s).reg 0 i = s.reg 0 i := by
    unfold clearStats
    simp only [State.reg_setStats]
    iterate 5 rw [State.reg_setReg_other _ (by decide) hi _ (by rintro ⟨-, rfl⟩; exact hs (by decide))]
  have h1 : (if clearAll = true then clearStats s else s).reg 0 i = s.reg 0 i := by
    split
    · exact hclear
    · rfl
  have h2 : ∀ u : State, (if (clearTriangles && u.isV2) = true then u.setReg 0 Reg.fbiTrianglesOut 0 else u).reg 0 i =
      u.reg 0 i := by
    intro u
    split
    · exact State.reg_setReg_other u (by decide) hi 0 fun h => ht h.2
    · rfl
  exact (h2 _).trans h1

theorem counterReset_fatal (s : State) (clearAll clearTriangles : Bool) :
    (counterReset clearAll clearTriangles s).fatal = s.fatal := by
  have h : ∀ u : State, (if (clearTriangles && u.isV2) = true then u.setReg 0 Reg.fbiTrianglesOut 0 else u).fatal =
      u.fatal := by
    intro u
    split <;> rfl
  cases clearAll <;> exact h _

/-- The effects of the readable registers keep every slot but the counters' and are never fatal. -/
theorem RegEffect.change_slot {e : RegEffect} (he : e ∈ [RegEffect.stored, .layout, .layoutReset]) (sel : Select)
    (v : Word) (s : State) {i : Nat} (hi : i < 256) (hs : ¬(Reg.fbiPixelsIn ≤ i ∧ i ≤ Reg.fbiPixelsOut))
    (ht : i ≠ Reg.fbiTrianglesOut) :
    (e.change sel v s).reg 0 i = s.reg 0 i ∧ (e.change sel v s).fatal = s.fatal ∧
      e.run sel v s = done (e.change sel v s) ∧ e.draws = false ∧ e.redirects v = false := by
  fin_cases he
  · exact ⟨rfl, rfl, rfl, rfl, rfl⟩
  · exact ⟨rfl, rfl, rfl, rfl, rfl⟩
  · refine ⟨?_, ?_, rfl, rfl, rfl⟩
    · simp only [RegEffect.change]
      split
      · exact counterReset_reg_other _ _ _ hi hs ht
      · rfl
    · simp only [RegEffect.change]
      split
      · exact counterReset_fatal _ _ _
      · rfl

/-- The store of a readable register survives its side effect. -/
theorem writeMeaning_readWrite {n : Nat} (hn : n < 256) {k : BitVec 4} {s : State} (ha : s.config.access = none)
    (hr : readable s.config n = true) (hacc : Accepts s n) (hsel : selected s.config k 0 = true) (v : Word) :
    ∃ t, writeMeaning n k v s = .next t ∧ t.reg 0 n = v ∧ t.fatal = none ∧ t.config = s.config ∧
      t.initEnable = s.initEnable := by
  obtain ⟨hplain, -, hres, heff⟩ := readWrite_default ha hn hr hacc.access
  simp only [List.mem_cons, List.not_mem_nil, or_false, not_or] at hplain
  obtain ⟨hslot, hfatal, hrun, hdraws, hredirects⟩ := RegEffect.change_slot heff (selectOf s.config k) v
    (storeBanks (selectOf s.config k) n v s) hn (by simp only [Reg.fbiPixelsIn, Reg.fbiPixelsOut]; omega)
    (by simp only [Reg.fbiTrianglesOut]; omega)
  have hq := (Quiet.storeBanks s (selectOf s.config k) hn v).trans
    ((RegEffect.change_quiet hdraws (selectOf s.config k) v _).trans (Quiet.setResult _ none))
  refine ⟨_, ?_, ?_, ?_, hq.config, hq.initEnable⟩
  · rw [writeMeaning, hres, if_neg Bool.false_ne_true, regWrite_accepted hacc, writeStored, hredirects,
      if_neg Bool.false_ne_true, hrun]
    rfl
  · exact hslot.trans ((storeBanks_slots hacc.canonical k hn v (by decide) hn).trans (if_pos ⟨rfl, hsel⟩))
  · exact hfatal.trans (by rw [storeBanks_eq]; exact hacc.running)

/-- The read of a readable and writable register returns its slot. -/
theorem regRead_readWrite {n : Nat} (hn : n < 256) {t : State} (hf : t.fatal = none) (ha : t.config.access = none)
    (hr : readable t.config n = true) (hw : writable t.config n = true) (hd : readsDac t n = false) (k : BitVec 4) :
    regRead n k t = .next { t with result := some (t.reg 0 n) } := by
  obtain ⟨hplain, htex, -, -⟩ := readWrite_default ha hn hr hw
  rw [regRead_readable hf hr, readValue_slot hplain hd htex]
  rfl

/-- Settles O10: the store survives its side effect, and the read path returns the slot. -/
theorem readWriteRegistersRoundTrip : Obligations.ReadWriteRegistersRoundTrip := by
  refine ⟨fun n k k' v i j s ha hr hacc hsel hdac hwr hrd => ?_, rfl⟩
  obtain ⟨t, ht, hvalue, hf, hc, he⟩ := writeMeaning_readWrite n.isLt ha hr hacc hsel v
  have hd : readsDac t n.toNat = false := by
    simp only [readsDac, hc, he, Bool.and_eq_false_iff, decide_eq_false_iff_not]
    by_contra hcon
    simp only [not_or, not_not, Bool.not_eq_false] at hcon
    exact hdac ⟨BitVec.eq_of_toNat_eq hcon.1, hcon.2⟩
  rw [← hc] at ha hr
  have hw : writable t.config n.toNat = true := hc ▸ hacc.access
  refine ⟨t, (exec_of_decode_regWr hwr s).trans ht, _,
    (exec_of_decode_regRd hrd t).trans (regRead_readWrite n.isLt hf ha hr hw hd k'), congrArg some hvalue⟩

end Sys2Proof.Machine
end

section
/-! SUPPORT. A host's register map undone: the bits of a gathered word, a field replaced, and the two translations of a
word as inverses (O5). -/

namespace Sys2Proof.Machine

open Sys2Proof

/-! ## Words by their bits -/

theorem bit_ge (v : Word) {j : Nat} (h : 32 ≤ j) : bit v j = false := BitVec.getLsbD_of_ge v j h

theorem word_eq_of_bit {v w : Word} (h : ∀ j, j < 32 → bit v j = bit w j) : v = w := BitVec.eq_of_getLsbD_eq h

theorem bit_gatherFrom (f : Nat → Bool) {n : Nat} (hn : n ≤ 32) (lo j : Nat) :
    bit ((List.range' lo n).foldr (fun j (v : Word) => v <<< 1 ||| (if f j then 1 else 0)) 0) j =
      (decide (j < n) && f (lo + j)) := by
  induction n generalizing lo j with
  | zero => simp [bit]
  | succ n ih =>
    have hone : ∀ b : Bool, bit (if b = true then (1 : Word) else 0) j = (decide (j = 0) && b) := by
      intro b
      cases b <;> simp [bit, BitVec.getLsbD_one]
    have hshift : ∀ v : Word, bit (v <<< 1) j = (decide (j < 32) && !decide (j < 1) && bit v (j - 1)) :=
      fun v => BitVec.getLsbD_shiftLeft v 1
    have hor : ∀ v w : Word, bit (v ||| w) j = (bit v j || bit w j) := fun v w => BitVec.getLsbD_or
    rw [List.range'_succ, List.foldr_cons, hor, hshift, hone, ih (by omega)]
    cases j with
    | zero => simp
    | succ j =>
      have h1 : lo + 1 + j = lo + (j + 1) := by omega
      by_cases hj : j < n
      · have : j + 1 < 32 := by omega
        simp [hj, h1, this]
      · simp [hj]

theorem bit_gatherBits (f : Nat → Bool) (j : Nat) : bit (gatherBits f) j = (decide (j < 32) && f j) := by
  unfold gatherBits
  rw [List.range_eq_range', bit_gatherFrom f (Nat.le_refl 32), Nat.zero_add]

/-! ## One field replaced -/

theorem bit_setField (lo n x : Nat) (v : Word) (j : Nat) :
    bit (setField lo n x v) j = (decide (j < 32) && if lo ≤ j ∧ j < lo + n then x.testBit (j - lo) else bit v j) :=
  bit_gatherBits _ j

theorem bit_setField_outside {lo n j : Nat} (h : ¬(lo ≤ j ∧ j < lo + n)) (x : Nat) (v : Word) :
    bit (setField lo n x v) j = bit v j := by
  rw [bit_setField, if_neg h]
  by_cases hj : j < 32
  · simp [hj]
  · simp [hj, bit_ge v (Nat.le_of_not_lt hj)]

theorem field_setField_same {lo n x : Nat} (hx : x < 2 ^ n) (hn : lo + n ≤ 32) (v : Word) :
    field (setField lo n x v) lo n = x := by
  apply Nat.eq_of_testBit_eq
  intro j
  rw [testBit_field, bit_setField]
  by_cases hj : j < n
  · have h1 : lo + j < 32 := by omega
    simp [hj, h1]
  · have : x < 2 ^ j := lt_of_lt_of_le hx (Nat.pow_le_pow_right (by decide) (by omega))
    simp [hj, Nat.testBit_lt_two_pow this]

theorem field_setField_apart {lo n lo' n' : Nat} (h : lo + n ≤ lo' ∨ lo' + n' ≤ lo) (x : Nat) (v : Word) :
    field (setField lo n x v) lo' n' = field v lo' n' := by
  apply Nat.eq_of_testBit_eq
  intro j
  rw [testBit_field, testBit_field]
  by_cases hj : j < n'
  · rw [bit_setField_outside (by omega)]
  · simp [hj]

/-- A replaced field put back. -/
theorem setField_restore (lo n x : Nat) (v : Word) : setField lo n (field v lo n) (setField lo n x v) = v := by
  apply word_eq_of_bit
  intro j hj
  rw [bit_setField, bit_setField, testBit_field]
  by_cases h : lo ≤ j ∧ j < lo + n
  · have h1 : j - lo < n := by omega
    have h2 : lo + (j - lo) = j := by omega
    simp [hj, h, h1, h2]
  · simp [hj, h]

/-! ## The codes of a field (R44, R185) -/

/-- The default code for the host's in one field. -/
def codeField (v : Word) (c : FieldCodes) : Word :=
  setField c.low.val c.width.val (c.codes.getD (field v c.low.val c.width.val) 0) v

/-- The host's code for the default one in one field. -/
def uncodeField (c : FieldCodes) (v : Word) : Word :=
  setField c.low.val c.width.val (c.codes.idxOf (field v c.low.val c.width.val)) v

theorem codeFields_eq_foldl (l : List FieldCodes) (v : Word) : codeFields l v = l.foldl codeField v := rfl

theorem uncodeFields_eq_foldr (l : List FieldCodes) (v : Word) : uncodeFields l v = l.foldr uncodeField v := rfl

theorem FieldCodes.wf_iff (c : FieldCodes) : c.wf = true ↔ c.low.val + c.width.val ≤ 32 ∧
    c.codes.length = 2 ^ c.width.val ∧ c.codes.Nodup ∧ ∀ k ∈ c.codes, k < 2 ^ c.width.val := by
  simp only [FieldCodes.wf, Bool.and_eq_true, decide_eq_true_eq, List.all_eq_true, and_assoc]

theorem field_codeField {c : FieldCodes} (hc : c.wf = true) (v : Word) :
    field (codeField v c) c.low.val c.width.val = c.codes.getD (field v c.low.val c.width.val) 0 := by
  obtain ⟨hfits, hlen, -, hlt⟩ := (FieldCodes.wf_iff c).mp hc
  refine field_setField_same (hlt _ ?_) hfits v
  have hi : field v c.low.val c.width.val < c.codes.length := hlen ▸ field_lt _ _ _
  rw [List.getD_eq_getElem _ _ hi]
  exact List.getElem_mem hi

theorem uncodeField_codeField {c : FieldCodes} (hc : c.wf = true) (v : Word) : uncodeField c (codeField v c) = v := by
  obtain ⟨-, hlen, hnodup, -⟩ := (FieldCodes.wf_iff c).mp hc
  have hi : field v c.low.val c.width.val < c.codes.length := hlen ▸ field_lt _ _ _
  have hidx : c.codes.idxOf (c.codes.getD (field v c.low.val c.width.val) 0) = field v c.low.val c.width.val := by
    rw [List.getD_eq_getElem _ _ hi]
    exact hnodup.idxOf_getElem _ hi
  unfold uncodeField
  rw [field_codeField hc, hidx]
  exact setField_restore _ _ _ v

theorem uncodeFields_codeFields {l : List FieldCodes} (hl : ∀ c ∈ l, c.wf = true) (v : Word) :
    uncodeFields l (codeFields l v) = v := by
  induction l generalizing v with
  | nil => rfl
  | cons c l ih =>
    have htail := ih (fun d hd => hl d (List.mem_cons_of_mem c hd)) (codeField v c)
    rw [codeFields_eq_foldl, uncodeFields_eq_foldr] at htail ⊢
    rw [List.foldl_cons, List.foldr_cons, htail]
    exact uncodeField_codeField (hl c List.mem_cons_self) v

/-- Two fields that share no bit. -/
def fieldsDisjoint (a b : FieldCodes) : Prop :=
  a.low.val + a.width.val ≤ b.low.val ∨ b.low.val + b.width.val ≤ a.low.val

/-- Codes of other fields leave a field alone. -/
theorem field_codeFields_disjoint {l : List FieldCodes} {c : FieldCodes} (h : ∀ d ∈ l, fieldsDisjoint c d) (v : Word) :
    field (codeFields l v) c.low.val c.width.val = field v c.low.val c.width.val := by
  induction l generalizing v with
  | nil => rfl
  | cons d l ih =>
    rw [codeFields_eq_foldl, List.foldl_cons, ← codeFields_eq_foldl,
      ih fun e he => h e (List.mem_cons_of_mem d he)]
    exact field_setField_apart (h d List.mem_cons_self).symm _ v

theorem field_codeFields {l : List FieldCodes} (hl : ∀ c ∈ l, c.wf = true) (hd : l.Pairwise fieldsDisjoint)
    {c : FieldCodes} (hc : c ∈ l) (v : Word) :
    field (codeFields l v) c.low.val c.width.val = c.codes.getD (field v c.low.val c.width.val) 0 := by
  induction l generalizing v with
  | nil => cases hc
  | cons d l ih =>
    obtain ⟨hhead, htail⟩ := List.pairwise_cons.mp hd
    rw [codeFields_eq_foldl, List.foldl_cons, ← codeFields_eq_foldl]
    rcases List.mem_cons.mp hc with rfl | hmem
    · rw [field_codeFields_disjoint hhead, field_codeField (hl c List.mem_cons_self)]
    · rw [ih (fun e he => hl e (List.mem_cons_of_mem d he)) htail hmem]
      exact congrArg (fun i => c.codes.getD i 0) (field_setField_apart (hhead c hmem) _ v)

/-- A bit of no coded field keeps its value. -/
theorem bit_codeFields {l : List FieldCodes} {j : Nat}
    (h : ∀ c ∈ l, ¬(c.low.val ≤ j ∧ j < c.low.val + c.width.val)) (v : Word) : bit (codeFields l v) j = bit v j := by
  induction l generalizing v with
  | nil => rfl
  | cons c l ih =>
    rw [codeFields_eq_foldl, List.foldl_cons, ← codeFields_eq_foldl, ih fun d hd => h d (List.mem_cons_of_mem c hd)]
    exact bit_setField_outside (h c List.mem_cons_self) _ v

/-! ## The places of a register's bits -/

/-- A register map that moves every register, bit and code to one place, by parts. -/
structure RegMapParts (m : RegMap) : Prop where
  codes : ∀ c ∈ m.codes, c.wf = true
  apart : m.codes.Pairwise fun a b => FieldCodes.apart a b = true
  places : ∀ f ∈ m.fields, f.2.length = 32 ∧ f.2.Nodup
  fields : (m.fields.map Prod.fst).Nodup

theorem regMapParts_of_wf {m : RegMap} (h : m.wf = true) : RegMapParts m := by
  simp only [RegMap.wf, Bool.and_eq_true, decide_eq_true_eq, List.all_eq_true] at h
  obtain ⟨⟨⟨⟨⟨⟨-, hcodes⟩, hapart⟩, hplaces⟩, hfields⟩, -⟩, -⟩ := h
  exact ⟨hcodes, hapart, hplaces, hfields⟩

theorem mem_codedFields {m : RegMap} {n : Nat} {c : FieldCodes} :
    c ∈ codedFields m n ↔ c ∈ m.codes ∧ c.register.val = n := by
  simp [codedFields]

/-- The coded fields of one register share no bit. -/
theorem codedFields_disjoint {m : RegMap} (h : RegMapParts m) (n : Nat) :
    (codedFields m n).Pairwise fieldsDisjoint := by
  refine (h.apart.filter _).imp_of_mem fun {a b} ha hb hab => ?_
  have hreg : a.register = b.register := Fin.ext ((mem_codedFields.mp ha).2.trans (mem_codedFields.mp hb).2.symm)
  simpa [FieldCodes.apart, hreg, fieldsDisjoint] using hab

theorem mappedPlaces_eq_none {m : RegMap} {n : Nat} (h : ∀ f ∈ m.fields, f.1.val ≠ n) : mappedPlaces m n = none := by
  simpa [mappedPlaces] using h

theorem mappedPlaces_of_mem {m : RegMap} (h : RegMapParts m) {f : Fin 256 × List (Fin 32)} (hf : f ∈ m.fields) :
    mappedPlaces m f.1.val = some f.2 := by
  unfold mappedPlaces
  cases hfind : m.fields.find? fun g => decide (g.1.val = f.1.val) with
  | none => exact absurd (by simp) (List.find?_eq_none.mp hfind f hf)
  | some g =>
    have hreg : g.1 = f.1 := Fin.ext (by simpa using List.find?_some hfind)
    rw [List.inj_on_of_nodup_map h.fields (List.mem_of_find?_eq_some hfind) hf hreg]
    rfl

theorem placeBits_none {m : RegMap} {n : Nat} (h : mappedPlaces m n = none) (v : Word) : placeBits m n v = v := by
  simp only [placeBits, h]

theorem bit_placeBits {m : RegMap} {n : Nat} {l : List (Fin 32)} (h : mappedPlaces m n = some l) (v : Word) {j : Nat}
    (hj : j < 32) : bit (placeBits m n v) j = bit v (l.getD j 0).val := by
  simp only [placeBits, h, bit_gatherBits, hj, decide_true, Bool.true_and]

/-- 32 distinct places are all the places. -/
theorem mem_of_nodup_places {l : List (Fin 32)} (hlen : l.length = 32) (hd : l.Nodup) (p : Fin 32) : p ∈ l := by
  have : l.toFinset = Finset.univ := Finset.eq_univ_of_card _ (by rw [List.toFinset_card_of_nodup hd, hlen]; rfl)
  exact List.mem_toFinset.mp (this ▸ Finset.mem_univ p)

theorem unplaceBits_placeBits {m : RegMap} (h : RegMapParts m) (n : Nat) (v : Word) :
    unplaceBits m n (placeBits m n v) = v := by
  cases hl : mappedPlaces m n with
  | none => simp only [unplaceBits, placeBits, hl]
  | some l =>
    obtain ⟨f, hf, hreg, rfl⟩ : ∃ f ∈ m.fields, f.1.val = n ∧ f.2 = l := by
      simp only [mappedPlaces, Option.map_eq_some_iff] at hl
      obtain ⟨f, hfind, rfl⟩ := hl
      exact ⟨f, List.mem_of_find?_eq_some hfind, by simpa using List.find?_some hfind, rfl⟩
    obtain ⟨hlen, hnodup⟩ := h.places f hf
    apply word_eq_of_bit
    intro p hp
    have hmem : p ∈ f.2.map Fin.val := List.mem_map.mpr ⟨⟨p, hp⟩, mem_of_nodup_places hlen hnodup _, rfl⟩
    have hi : (f.2.map Fin.val).idxOf p < f.2.length := by simpa using List.idxOf_lt_length_of_mem hmem
    have hval : (f.2.getD ((f.2.map Fin.val).idxOf p) 0).val = p := by
      rw [List.getD_eq_getElem _ _ hi]
      have hget := List.getElem_idxOf (List.idxOf_lt_length_of_mem hmem)
      rwa [List.getElem_map] at hget
    have hun : bit (unplaceBits m n (placeBits m n v)) p = bit (placeBits m n v) ((f.2.map Fin.val).idxOf p) := by
      simp only [unplaceBits, hl, bit_gatherBits, hp, decide_true, Bool.true_and]
    rw [hun, bit_placeBits hl v (hi.trans_eq hlen), hval]

/-- The host's word of a register and the register's own word undo each other (R9). -/
theorem toHostBits_fromHostBits {m : RegMap} (h : RegMapParts m) (n : Nat) (v : Word) :
    toHostBits m n (fromHostBits m n v) = v := by
  unfold toHostBits fromHostBits
  rw [uncodeFields_codeFields fun c hc => h.codes c (mem_codedFields.mp hc).1, unplaceBits_placeBits h]

/-! ## The register that an access maps to -/

theorem isV2_eq_false_iff (s : State) : (!s.isV2) = true ↔ s.config.variant = .v1 := by
  unfold State.isV2
  cases s.config.variant <;> decide

/-- The effective index (R103). -/
theorem effectiveIndex_eq (s : State) (offset : Word) : effectiveIndex s offset =
    if s.config.variant = .v1 ∧ bit (s.reg 0 Reg.fbiInit3) 0 = true ∧
      bit offset (12 + (s.config.aliasSel.getD Config.freeAliasSel).val) = true ∧ field offset 0 8 < 64
    then (aliasIndex s.config (offset.extractLsb' 0 6)).toNat
    else field offset 0 8 := by
  unfold effectiveIndex
  simp only [Bool.and_eq_true, isV2_eq_false_iff, decide_eq_true_eq, and_assoc, FbiInit3.triRegisterRemap, aliasBit]

theorem toNat_ofNat_effectiveIndex (s : State) (offset : Word) :
    (BitVec.ofNat 8 (effectiveIndex s offset)).toNat = effectiveIndex s offset := by
  rw [BitVec.toNat_ofNat]
  exact Nat.mod_eq_of_lt (effectiveIndex_lt s offset)

/-- A write at any offset is the decoded write of its effective index (R137, R31). -/
theorem exec_regWr_eq_decoded {s : State} {offset v : Word} {i : Instr}
    (hd : decode (grantCycle s
      (.regWr (regOffset (BitVec.ofNat 8 (effectiveIndex s offset)) (offset.extractLsb' 8 4)) v)) = .ok i) :
    exec (.regWr offset v) s = exec i s := by
  have hn : (BitVec.ofNat 8 (effectiveIndex s offset)).toNat = effectiveIndex s offset :=
    toNat_ofNat_effectiveIndex s offset
  simp only [grantCycle, field_regOffset, hn] at hd
  rw [exec_regWr]
  cases hw : writable s.config (effectiveIndex s offset) with
  | false =>
    rw [hw, Bool.and_false, if_neg Bool.false_ne_true] at hd
    rw [exec_of_decode_regWr hd, writeMeaning, hn, regWrite_unwritable hw, regWrite_unwritable hw, ite_self]
  | true =>
    rw [hw, Bool.and_true] at hd
    cases hr : reservedIndex (effectiveIndex s offset) with
    | true =>
      simp only [hr, if_true, decode, field_regOffset, hn] at hd
      cases hd
      rw [exec_regWr, effectiveIndex_regOffset, offsetChips_regOffset, hn]
      rfl
    | false =>
      rw [hr, if_neg Bool.false_ne_true] at hd
      rw [exec_of_decode_regWr hd, writeMeaning, hn, hr, if_neg Bool.false_ne_true]
      rfl

/-- A read at any offset is the decoded read of its effective index (R137). -/
theorem exec_regRd_eq_decoded {s : State} {offset : Word} {i : Instr}
    (hd : decode (.regRd (regOffset (BitVec.ofNat 8 (effectiveIndex s offset)) (offset.extractLsb' 8 4))) = .ok i) :
    exec (.regRd offset) s = exec i s := by
  rw [exec_of_decode_regRd hd, toNat_ofNat_effectiveIndex]
  rfl

/-- An accepted write without a side effect stores in its slots and changes nothing else (R131). -/
theorem regWrite_stored {s : State} {n : Nat} (hn : n < 256) (h : Accepts s n) (k : BitVec 4) (v : Word) :
    ∃ t, regWrite n .stored k v s = .next t ∧ Stores n k v s t ∧ t = { s with regs := t.regs, result := none } := by
  refine ⟨_, regWrite_accepted h .stored k v, ⟨rfl, fun b i hb hi => storeBanks_slots h.canonical k hn v hb hi⟩, ?_⟩
  change ({ storeBanks (selectOf s.config k) n v s with result := none } : State) = _
  rw [storeBanks_eq]
  rfl

/-! ## The register map on the bus -/

theorem mapCycle_regWr {s : State} {m : RegMap} (hm : s.config.regMap = some m) (offset v : Word) :
    mapCycle s (.regWr offset v) = .regWr
      (regOffset (BitVec.ofNat 8 (mappedRegister m (effectiveIndex s offset))) (m.chips.getD (field offset 8 4) 0))
      (fromHostBits m (mappedRegister m (effectiveIndex s offset)) v) := by
  simp only [mapCycle, hm, mappedChips, field_eq_extractLsb' offset 8 4]

theorem mapCycle_regRd {s : State} {m : RegMap} (hm : s.config.regMap = some m) (offset : Word) :
    mapCycle s (.regRd offset) = .regRd
      (regOffset (BitVec.ofNat 8 (mappedRegister m (effectiveIndex s offset))) (m.chips.getD (field offset 8 4) 0)) := by
  simp only [mapCycle, hm, mappedChips, field_eq_extractLsb' offset 8 4]

theorem hostAnswer_regRd {s : State} {m : RegMap} (hm : s.config.regMap = some m) (offset : Word) (t : State) :
    hostAnswer s (.regRd offset) (.next t) = .next
      (if readable s.config (mappedRegister m (effectiveIndex s offset)) = true ∧
          ¬(mappedRegister m (effectiveIndex s offset) = 0x86 ∧
            bit s.initEnable s.config.constants.dacReadBit.val = true)
        then { t with result := t.result.map (toHostBits m (mappedRegister m (effectiveIndex s offset))) } else t) := by
  simp only [hostAnswer, hm]
  have hdac : ∀ n, (!readsDac s n) = true ↔ ¬(n = 0x86 ∧ bit s.initEnable s.config.constants.dacReadBit.val = true) := by
    intro n
    rw [Bool.not_eq_true', ← Bool.not_eq_true]
    simp only [readsDac, Bool.and_eq_true, decide_eq_true_eq, Reg.fbiInit2]
  simp only [Bool.and_eq_true, hdac]
  split <;> rfl

/-- Settles O5: both paths start from the effective index, and the map's translations are inverses. -/
theorem aliasedAccessIsTheAccessItMapsTo : Obligations.AliasedAccessIsTheAccessItMapsTo := by
  refine ⟨effectiveIndex_eq, fun s offset v i hd => exec_regWr_eq_decoded hd,
    fun s offset i hd => exec_regRd_eq_decoded hd, fun s offset v he h => ?_, fun s m offset v hm hwf => ?_⟩
  · rw [exec_regWr, he]
    exact regWrite_stored (effectiveIndex_lt s offset) h _ v
  · have hp := regMapParts_of_wf hwf
    refine ⟨⟨placeBits m (mappedRegister m (effectiveIndex s offset)) v, _, mapCycle_regWr hm offset v, ?_, ?_, ?_, ?_,
        toHostBits_fromHostBits hp _ v⟩,
      mapCycle_regRd hm offset, hostAnswer_regRd hm offset⟩
    · exact fun hnone => placeBits_none (mappedPlaces_eq_none hnone) v
    · intro f hf hn j hj
      have hreg : f.1.val = mappedRegister m (effectiveIndex s offset) := hn
      rw [← hreg]
      exact bit_placeBits (mappedPlaces_of_mem hp hf) v hj
    · intro j hj
      exact bit_codeFields (fun c hc => hj c (mem_codedFields.mp hc).1 (mem_codedFields.mp hc).2) _
    · intro c hc hn
      exact field_codeFields (fun d hd => hp.codes d (mem_codedFields.mp hd).1) (codedFields_disjoint hp _)
        (mem_codedFields.mpr ⟨hc, hn⟩) _

end Sys2Proof.Machine
end

section
/-! SUPPORT. What an NCC register write leaves in a unit: coefficients of one table, or a palette entry (O19). -/

namespace Sys2Proof.Machine

open Sys2Proof

/-! ## One table of a unit -/

/-- Table `i` of a unit replaced. -/
def Tmu.setNcc (t : Tmu) (i : Fin 2) (n : Ncc) : Tmu := if i = 0 then { t with ncc0 := n } else { t with ncc1 := n }

theorem Tmu.ncc_setNcc_same (t : Tmu) (i : Fin 2) (n : Ncc) : (t.setNcc i n).ncc i = n := by fin_cases i <;> rfl

theorem Tmu.ncc_setNcc_other (t : Tmu) (i : Fin 2) (n : Ncc) : (t.setNcc i n).ncc (1 - i) = t.ncc (1 - i) := by
  fin_cases i <;> rfl

theorem Tmu.setNcc_palette (t : Tmu) (i : Fin 2) (n : Ncc) : (t.setNcc i n).palette = t.palette := by
  fin_cases i <;> rfl

theorem Tmu.setNcc_palettea (t : Tmu) (i : Fin 2) (n : Ncc) : (t.setNcc i n).palettea = t.palettea := by
  fin_cases i <;> rfl

theorem Tmu.ncc_ok {t : Tmu} (h : t.ok = true) (i : Fin 2) : (t.ncc i).ok = true := by
  fin_cases i
  · exact Tmu.ncc0_ok h
  · exact Tmu.ncc1_ok h

/-! ## The two kinds of write (R190) -/

theorem nccWrite_coefficient {n : Nat} {data : Word} (h : redirectsPalette n data = false) (k : Constants) (v2 : Bool)
    (i : Fin 2) (t : Tmu) : nccWrite k v2 i n data t = t.setNcc i (nccCoefficient k.tables n data (t.ncc i)) := by
  unfold nccWrite
  rw [h]
  fin_cases i <;> rfl

theorem nccWrite_palette {n : Nat} {data : Word} (h : redirectsPalette n data = true) (k : Constants) (v2 : Bool)
    (i : Fin 2) (t : Tmu) : nccWrite k v2 i n data t = paletteWrite k v2 n data t := by
  unfold nccWrite
  rw [h, if_pos rfl]

/-- A palette write changes the two palettes alone (R191). -/
theorem paletteWrite_eq (k : Constants) (v2 : Bool) (n : Nat) (data : Word) (t : Tmu) :
    paletteWrite k v2 n data t = { t with
      palette := (paletteWrite k v2 n data t).palette, palettea := (paletteWrite k v2 n data t).palettea } := by
  unfold paletteWrite
  cases v2 <;> rfl

theorem nccWrite_frame (k : Constants) (v2 : Bool) (i : Fin 2) (n : Nat) (data : Word) (t : Tmu) :
    nccWrite k v2 i n data t = { t with
      ncc0 := (nccWrite k v2 i n data t).ncc0, ncc1 := (nccWrite k v2 i n data t).ncc1,
      palette := (nccWrite k v2 i n data t).palette, palettea := (nccWrite k v2 i n data t).palettea } := by
  cases h : redirectsPalette n data with
  | false =>
    rw [nccWrite_coefficient h]
    fin_cases i <;> rfl
  | true =>
    rw [nccWrite_palette h, paletteWrite_eq]

theorem nccWrite_otherTable (k : Constants) (v2 : Bool) (i : Fin 2) (n : Nat) (data : Word) (t : Tmu) :
    (nccWrite k v2 i n data t).ncc (1 - i) = t.ncc (1 - i) := by
  cases h : redirectsPalette n data with
  | false => rw [nccWrite_coefficient h, Tmu.ncc_setNcc_other]
  | true => rw [nccWrite_palette h, paletteWrite_eq]; rfl

/-! ## Coefficients (R190) -/

theorem nccCoefficient_luma {n : Nat} (h : n < 4) (k : TableFields) (data : Word) (t : Ncc) :
    nccCoefficient k n data t = nccLuma k n data t := if_pos h

theorem nccCoefficient_i {n : Nat} (h : 4 ≤ n) (h' : n < 8) (k : TableFields) (data : Word) (t : Ncc) :
    nccCoefficient k n data t = nccI k (n - 4) data t := by
  rw [nccCoefficient, if_neg (by omega), if_pos h']

theorem nccCoefficient_q {n : Nat} (h : 8 ≤ n) (k : TableFields) (data : Word) (t : Ncc) :
    nccCoefficient k n data t = nccQ k (n - 8) data t := by
  rw [nccCoefficient, if_neg (by omega), if_neg (by omega)]

theorem nccCoefficient_texel (k : TableFields) (n : Nat) (data : Word) (t : Ncc) :
    (nccCoefficient k n data t).texel = t.texel := by
  unfold nccCoefficient
  split
  · rfl
  · split <;> rfl

theorem nccWrite_texel (k : Constants) (v2 : Bool) (i : Fin 2) (n : Nat) (data : Word) (t : Tmu) :
    ((nccWrite k v2 i n data t).ncc i).texel = (t.ncc i).texel := by
  cases h : redirectsPalette n data with
  | false => rw [nccWrite_coefficient h, Tmu.ncc_setNcc_same, nccCoefficient_texel]
  | true => rw [nccWrite_palette h, paletteWrite_eq]; rfl

/-- The four lumas of one register (R190). -/
theorem nccLuma_read {t : Ncc} (h : t.y.wf = true) (k : TableFields) (n : Nat) (data : Word) (j : Nat) :
    (nccLuma k n data t).y.read j =
      if j / 4 = n then data.extractLsb' (k.luma * (j % 4)) 8 else t.y.read j := by
  have h0 := Memory.wf_write h (4 * n) (data.extractLsb' (k.luma * 0) 8)
  have h1 := Memory.wf_write h0 (4 * n + 1) (data.extractLsb' (k.luma * 1) 8)
  have h2 := Memory.wf_write h1 (4 * n + 2) (data.extractLsb' (k.luma * 2) 8)
  simp only [nccLuma, Memory.read_write h2, Memory.read_write h1, Memory.read_write h0, Memory.read_write h]
  by_cases hj : j / 4 = n
  · obtain hb | hb | hb | hb : j % 4 = 3 ∨ j % 4 = 2 ∨ j % 4 = 1 ∨ j % 4 = 0 := by omega
    · rw [if_pos (by omega), if_pos hj, hb]
    · rw [if_neg (by omega), if_pos (by omega), if_pos hj, hb]
    · rw [if_neg (by omega), if_neg (by omega), if_pos (by omega), if_pos hj, hb]
    · rw [if_neg (by omega), if_neg (by omega), if_neg (by omega), if_pos (by omega), if_pos hj, hb]
  · rw [if_neg (by omega), if_neg (by omega), if_neg (by omega), if_neg (by omega), if_neg hj]

/-! ## Palette entries (R191) -/

/-- The palette entry of register `n` and a data word. -/
def paletteEntry (k : TableFields) (n : Nat) (data : Word) : Nat :=
  (field data k.index k.indexBits * 2 ^ k.indexUp + n % 2 ^ k.indexUp) % 256

theorem paletteEntry_eq (k : TableFields) (n : Nat) (data : Word) :
    (field data k.index k.indexBits <<< k.indexUp ||| n % 2 ^ k.indexUp) % 256 = paletteEntry k n data := by
  rw [← Nat.shiftLeft_add_eq_or_of_lt (Nat.mod_lt n (Nat.two_pow_pos _)), Nat.shiftLeft_eq]
  rfl

theorem paletteWrite_palette {t : Tmu} (h : t.palette.wf = true) (k : Constants) (v2 : Bool) (n : Nat) (data : Word)
    (j : Nat) : (paletteWrite k v2 n data t).palette.read j =
      if j = paletteEntry k.tables n data then
        (k.expand.solid ++ BitVec.ofNat 24 (field data k.tables.colour k.tables.colourBits) : BitVec 32)
      else t.palette.read j := by
  unfold paletteWrite
  simp only [paletteEntry_eq]
  cases v2 <;> exact Memory.read_write h _ _ _

theorem paletteWrite_palettea {t : Tmu} (h : t.palettea.wf = true) (k : Constants) (v2 : Bool) (n : Nat) (data : Word)
    (j : Nat) : (paletteWrite k v2 n data t).palettea.read j =
      if v2 = true ∧ j = paletteEntry k.tables n data then
        packArgb (x6to8 k.expand (field data k.tables.alpha k.tables.channelBits))
          (x6to8 k.expand (field data k.tables.red k.tables.channelBits))
          (x6to8 k.expand (field data k.tables.green k.tables.channelBits))
          (x6to8 k.expand (field data k.tables.blue k.tables.channelBits))
      else t.palettea.read j := by
  unfold paletteWrite
  simp only [paletteEntry_eq]
  cases v2 with
  | false => simp
  | true => simpa only [true_and, if_true] using Memory.read_write h _ _ _

/-- Settles O19: a write that redirects is a palette write, any other a coefficient write of its table. -/
theorem nccWriteFillsCoefficientsOrPalette : Obligations.NccWriteFillsCoefficientsOrPalette := by
  refine ⟨fun k v2 i n data t ht hn => ?_, rfl, rfl, by decide⟩
  obtain ⟨hy, hir, hig, hib, hqr, hqg, hqb, -⟩ := (Ncc.ok_iff _).mp (Tmu.ncc_ok ht i)
  obtain ⟨-, -, -, -, hp, ha, -⟩ := (Tmu.ok_iff _).mp ht
  refine ⟨nccWrite_frame k v2 i n data t, nccWrite_otherTable k v2 i n data t, nccWrite_texel k v2 i n data t,
    fun h4 => ?_, fun h4 h8 hbit => ?_, fun h8 hbit => ?_, fun h4 hbit => ?_⟩
  · have hr : redirectsPalette n data = false := by
      rw [redirectsPalette, decide_eq_false (by omega), Bool.false_and]
    rw [nccWrite_coefficient hr, Tmu.ncc_setNcc_same, nccCoefficient_luma h4, Tmu.setNcc_palette, Tmu.setNcc_palettea]
    refine ⟨rfl, rfl, rfl, fun b hb => ?_, fun j hj => ?_, rfl, rfl, rfl, rfl, rfl, rfl⟩
    · rw [nccLuma_read (Memory.wf_of_inRange hy), if_pos (by omega)]
      congr 2
      omega
    · rw [nccLuma_read (Memory.wf_of_inRange hy), if_neg hj]
  · have hr : redirectsPalette n data = false := by rw [redirectsPalette, hbit, Bool.and_false]
    rw [nccWrite_coefficient hr, Tmu.ncc_setNcc_same, nccCoefficient_i h4 h8, Tmu.setNcc_palette, Tmu.setNcc_palettea]
    exact ⟨rfl, rfl, rfl, fun j => Memory.read_write (Memory.wf_of_inRange hir) _ _ _,
      fun j => Memory.read_write (Memory.wf_of_inRange hig) _ _ _,
      fun j => Memory.read_write (Memory.wf_of_inRange hib) _ _ _, rfl, rfl, rfl, rfl⟩
  · have hr : redirectsPalette n data = false := by rw [redirectsPalette, hbit, Bool.and_false]
    rw [nccWrite_coefficient hr, Tmu.ncc_setNcc_same, nccCoefficient_q h8, Tmu.setNcc_palette, Tmu.setNcc_palettea]
    exact ⟨rfl, rfl, rfl, fun j => Memory.read_write (Memory.wf_of_inRange hqr) _ _ _,
      fun j => Memory.read_write (Memory.wf_of_inRange hqg) _ _ _,
      fun j => Memory.read_write (Memory.wf_of_inRange hqb) _ _ _, rfl, rfl, rfl, rfl⟩
  · have hr : redirectsPalette n data = true := by rw [redirectsPalette, hbit, decide_eq_true h4]; rfl
    rw [nccWrite_palette hr]
    refine ⟨by rw [paletteWrite_eq]; rfl, paletteWrite_palette (Memory.wf_of_inRange hp) k v2 n data,
      paletteWrite_palettea (Memory.wf_of_inRange ha) k v2 n data⟩

end Sys2Proof.Machine
end

section
/-! SUPPORT. Fastfill as a loop of pixel writes: what a pass writes and keeps, the words it leaves, its counts (O29). -/

namespace Sys2Proof.Machine

open Sys2Proof

/-! ## Words of framebuffer RAM -/

theorem bufferWrite_wf {s : State} (h : s.fbi.ram.wf = true) (base : Option Word) (x sy : Nat) (v : Half) :
    (bufferWrite base x sy v s).fbi.ram.wf = true := by
  unfold bufferWrite fbWrite16
  split
  · exact h
  · split
    · exact h
    · exact Memory.wf_write (Memory.wf_write h _ _) _ _

/-- The word just written to a pixel inside RAM is read back (R83). -/
theorem bufferWrite_word {s : State} (h : s.fbi.ram.wf = true) {b : Word} {x sy : Nat} (v : Half)
    (hfit : b.toNat + pixelOffset s.fbi x sy + 1 ≤ s.fbi.mask.toNat) :
    fbWord (b.toNat + pixelOffset s.fbi x sy) (bufferWrite (some b) x sy v s).fbi = v :=
  fbWrite16_word h hfit

/-- The word at `a` is the same in both memories. -/
def sameWord (a : Nat) (f g : Fbi) : Prop := g.ram.read a = f.ram.read a ∧ g.ram.read (a + 1) = f.ram.read (a + 1)

theorem fbWord_of_sameWord {a : Nat} {f g : Fbi} (h : sameWord a f g) : fbWord a g = fbWord a f := by
  unfold fbWord
  rw [h.1, h.2]

/-- A byte belongs to one pixel of a buffer whose pixels lie inside the row pitch (R340). -/
theorem ownsByte_unique {f : Fbi} {base : Option Word} {x sy x' sy' a : Nat} (hx : x < f.rowpixels.toNat)
    (hx' : x' < f.rowpixels.toNat) (h : ownsByte f base x sy a) (h' : ownsByte f base x' sy' a) : x = x' ∧ sy = sy' := by
  cases base with
  | none => exact h.elim
  | some b =>
    simp only [ownsByte, pixelOffset] at h h'
    have hoff : sy * f.rowpixels.toNat + x = sy' * f.rowpixels.toNat + x' := by omega
    have hdiv := congrArg (· / f.rowpixels.toNat) hoff
    simp only [Nat.mul_comm _ f.rowpixels.toNat, Nat.mul_add_div (Nat.zero_lt_of_lt hx), Nat.div_eq_of_lt hx,
      Nat.div_eq_of_lt hx', Nat.add_zero] at hdiv
    subst hdiv
    exact ⟨by omega, rfl⟩

/-! ## Loops that reach one index -/

/-- What one pass establishes and the others keep holds after the loop. -/
theorem repeatFrom_establishes {P Q : State → Prop} {k : Nat → State → State} {n i j : Nat} (hij : i ≤ j)
    (hjn : j < i + n) (hP : ∀ m s, P s → P (k m s)) (hest : ∀ s, P s → Q (k j s))
    (hkeep : ∀ m s, i ≤ m → m < i + n → m ≠ j → P s → Q s → Q (k m s)) {s : State} (h : P s) :
    Q (repeatFrom n i k s) := by
  induction n generalizing i s with
  | zero => omega
  | succ n ih =>
    by_cases he : i = j
    · subst he
      have hafter : (fun s => P s ∧ Q s) (repeatFrom n (i + 1) k (k i s)) :=
        repeatFrom_invariant_range (P := fun s => P s ∧ Q s)
          (fun m s h1 h2 hs => ⟨hP m s hs.1, hkeep m s (by omega) (by omega) (by omega) hs.1 hs.2⟩)
          ⟨hP i s h, hest s h⟩
      exact hafter.2
    · exact ih (by omega) (by omega) (fun m s h1 h2 => hkeep m s (by omega) (by omega)) (hP i s h)

/-! ## One pixel -/

/-- A state that differs from `s` in framebuffer RAM and the statistics alone, the RAM canonical. -/
structure FillFrame (s w : State) : Prop where
  eq : w = { s with fbi := { s.fbi with ram := w.fbi.ram }, stats := w.stats }
  wf : w.fbi.ram.wf = true

/-- The word that the rectangle gives the colour buffer (R384). -/
def fillColour (s : State) (x y : Nat) : Half :=
  dither565 s.config.constants (s.reg 0 Reg.fbzMode) (Argb.red (s.reg 0 Reg.color1)) (Argb.green (s.reg 0 Reg.color1))
    (Argb.blue (s.reg 0 Reg.color1)) x y

/-- The colour part of one pixel of the rectangle. -/
def fillColourWrite (s : State) (x y : Nat) (w : State) : State :=
  if FbzMode.rgbBufferMask (s.reg 0 Reg.fbzMode) = true then
    bufferWrite (drawBase s) x (screenY s y) (fillColour s x y) w else w

/-- The aux part of one pixel of the rectangle. -/
def fillAuxWrite (s : State) (x y : Nat) (w : State) : State :=
  if FbzMode.auxBufferMask (s.reg 0 Reg.fbzMode) = true then
    bufferWrite s.fbi.auxoffs x (screenY s y) (fillAux s) w else w

theorem FillFrame.write {s w : State} (h : FillFrame s w) (base : Option Word) (x sy : Nat) (v : Half) :
    FillFrame s (bufferWrite base x sy v w) where
  eq := by rw [bufferWrite_eq, h.eq]
  wf := bufferWrite_wf h.wf _ _ _ _

theorem FillFrame.colourWrite {s w : State} (h : FillFrame s w) (x y : Nat) :
    FillFrame s (fillColourWrite s x y w) := by
  unfold fillColourWrite
  split
  · exact h.write _ _ _ _
  · exact h

theorem FillFrame.auxWrite {s w : State} (h : FillFrame s w) (x y : Nat) : FillFrame s (fillAuxWrite s x y w) := by
  unfold fillAuxWrite
  split
  · exact h.write _ _ _ _
  · exact h

/-- Inside the fill, a pixel is its colour write and then its aux write, both as the first state has them (R384). -/
theorem FillFrame.fillPixel_eq {s w : State} (h : FillFrame s w) (x y : Nat) :
    fillPixel x y w = fillAuxWrite s x y (fillColourWrite s x y w) := by
  have hsame : ∀ {u : State}, FillFrame s u →
      (fun v : State => (fillAux v, v.fbi.auxoffs)) u = (fillAux s, s.fbi.auxoffs) := by
    intro u hu
    rw [hu.eq]
    rfl
  have hparams : (fun v : State => (v.reg 0 Reg.fbzMode, drawBase v, screenY v y, fillColour v x y)) w =
      (s.reg 0 Reg.fbzMode, drawBase s, screenY s y, fillColour s x y) := by
    rw [h.eq]
    rfl
  simp only [Prod.mk.injEq] at hparams hsame
  obtain ⟨hfbz, hbase, hrow, hcolour⟩ := hparams
  obtain ⟨haux, hauxoffs⟩ := hsame (h.colourWrite x y)
  have hfirst : (if FbzMode.rgbBufferMask (w.reg 0 Reg.fbzMode) = true then
      bufferWrite (drawBase w) x (screenY w y) (fillColour w x y) w else w) = fillColourWrite s x y w := by
    rw [hfbz, hbase, hrow, hcolour]
    rfl
  calc fillPixel x y w = (if FbzMode.auxBufferMask (w.reg 0 Reg.fbzMode) = true then
        bufferWrite (fillColourWrite s x y w).fbi.auxoffs x (screenY w y)
          (fillAux (fillColourWrite s x y w)) (fillColourWrite s x y w)
        else fillColourWrite s x y w) := by rw [← hfirst]; rfl
    _ = fillAuxWrite s x y (fillColourWrite s x y w) := by
      rw [haux, hauxoffs, hfbz, hrow]
      rfl

theorem FillFrame.pixel {s w : State} (h : FillFrame s w) (x y : Nat) : FillFrame s (fillPixel x y w) := by
  rw [h.fillPixel_eq]
  exact (h.colourWrite x y).auxWrite x y

/-- Bytes and sizes of a pixel are those of the first state. -/
theorem FillFrame.fbi_eq {s w : State} (h : FillFrame s w) : w.fbi = { s.fbi with ram := w.fbi.ram } :=
  congrArg State.fbi h.eq

theorem FillFrame.ownsByte_iff {s w : State} (h : FillFrame s w) (base : Option Word) (x sy a : Nat) :
    ownsByte w.fbi base x sy a ↔ ownsByte s.fbi base x sy a :=
  ownsByte_congr (congrArg Fbi.rowpixels h.fbi_eq :) base x sy a

theorem FillFrame.fillColourWrite_read {s w : State} (h : FillFrame s w) {x y a : Nat}
    (ha : FbzMode.rgbBufferMask (s.reg 0 Reg.fbzMode) = true → ¬ ownsByte s.fbi (drawBase s) x (screenY s y) a) :
    (fillColourWrite s x y w).fbi.ram.read a = w.fbi.ram.read a := by
  unfold fillColourWrite
  split
  · rename_i hmask
    exact bufferWrite_read_other ((h.ownsByte_iff _ _ _ _).not.mpr (ha hmask))
  · rfl

theorem FillFrame.fillAuxWrite_read {s w : State} (h : FillFrame s w) {x y a : Nat}
    (ha : FbzMode.auxBufferMask (s.reg 0 Reg.fbzMode) = true → ¬ ownsByte s.fbi s.fbi.auxoffs x (screenY s y) a) :
    (fillAuxWrite s x y w).fbi.ram.read a = w.fbi.ram.read a := by
  unfold fillAuxWrite
  split
  · rename_i hmask
    exact bufferWrite_read_other ((h.ownsByte_iff _ _ _ _).not.mpr (ha hmask))
  · rfl

/-- The pixel writes this byte: its colour word with colour on, its aux word with aux on. -/
def fillTouches (s : State) (x y a : Nat) : Prop :=
  (FbzMode.rgbBufferMask (s.reg 0 Reg.fbzMode) = true ∧ ownsByte s.fbi (drawBase s) x (screenY s y) a) ∨
    (FbzMode.auxBufferMask (s.reg 0 Reg.fbzMode) = true ∧ ownsByte s.fbi s.fbi.auxoffs x (screenY s y) a)

theorem FillFrame.fillPixel_read {s w : State} (h : FillFrame s w) {x y a : Nat} (ha : ¬ fillTouches s x y a) :
    (fillPixel x y w).fbi.ram.read a = w.fbi.ram.read a := by
  simp only [fillTouches, not_or, not_and] at ha
  rw [h.fillPixel_eq, (h.colourWrite x y).fillAuxWrite_read ha.2, h.fillColourWrite_read ha.1]

/-- The address of pixel (x, y) in a buffer at `b`. -/
def pixelAddress (s : State) (b : Word) (x y : Nat) : Nat := b.toNat + pixelOffset s.fbi x (screenY s y)

/-- The pixel's own colour word, where its aux word lies apart. -/
theorem FillFrame.fillPixel_colour {s w : State} (h : FillFrame s w) {b : Word} {x y : Nat}
    (hmask : FbzMode.rgbBufferMask (s.reg 0 Reg.fbzMode) = true) (hbase : drawBase s = some b)
    (hfit : pixelFits s b x y)
    (hapart : FbzMode.auxBufferMask (s.reg 0 Reg.fbzMode) = true → ∀ a,
      ownsByte s.fbi (drawBase s) x (screenY s y) a → ¬ ownsByte s.fbi s.fbi.auxoffs x (screenY s y) a) :
    fbWord (pixelAddress s b x y) (fillPixel x y w).fbi = fillColour s x y := by
  have hoff : pixelOffset w.fbi x (screenY s y) = pixelOffset s.fbi x (screenY s y) := by rw [h.fbi_eq]; rfl
  have hm : w.fbi.mask = s.fbi.mask := (congrArg Fbi.mask h.fbi_eq :)
  have hword : fbWord (pixelAddress s b x y) (fillColourWrite s x y w).fbi = fillColour s x y := by
    unfold fillColourWrite pixelAddress
    rw [if_pos hmask, hbase, ← hoff]
    exact bufferWrite_word h.wf _ (by rw [hoff, hm]; exact hfit)
  have hown : ∀ a, a = pixelAddress s b x y ∨ a = pixelAddress s b x y + 1 →
      ownsByte s.fbi (drawBase s) x (screenY s y) a := fun a ha => by rw [hbase]; exact ha
  rw [h.fillPixel_eq, fbWord_of_sameWord, hword]
  exact ⟨(h.colourWrite x y).fillAuxWrite_read fun haux => hapart haux _ (hown _ (.inl rfl)),
    (h.colourWrite x y).fillAuxWrite_read fun haux => hapart haux _ (hown _ (.inr rfl))⟩

/-- The pixel's own aux word. -/
theorem FillFrame.fillPixel_aux {s w : State} (h : FillFrame s w) {b : Word} {x y : Nat}
    (hmask : FbzMode.auxBufferMask (s.reg 0 Reg.fbzMode) = true) (hbase : s.fbi.auxoffs = some b)
    (hfit : pixelFits s b x y) : fbWord (pixelAddress s b x y) (fillPixel x y w).fbi = fillAux s := by
  have hc := h.colourWrite x y
  have hoff : pixelOffset (fillColourWrite s x y w).fbi x (screenY s y) = pixelOffset s.fbi x (screenY s y) := by
    rw [hc.fbi_eq]; rfl
  have hm : (fillColourWrite s x y w).fbi.mask = s.fbi.mask := (congrArg Fbi.mask hc.fbi_eq :)
  rw [h.fillPixel_eq]
  unfold fillAuxWrite pixelAddress
  rw [if_pos hmask, hbase, ← hoff]
  exact bufferWrite_word hc.wf _ (by rw [hoff, hm]; exact hfit)

/-! ## The rectangle -/

/-- The rectangle [left, right) x [low, high). -/
def insideRect (left right low high x y : Nat) : Prop := left ≤ x ∧ x < right ∧ low ≤ y ∧ y < high

/-- The rows of a fill, before the fold. -/
def fillLoop (left right low high : Nat) (rgbOn : Bool) (s : State) : State :=
  repeatFrom (high - low) low (fillRow left (right - left) rgbOn) s

theorem FillFrame.repeatPixels {s w : State} (h : FillFrame s w) (n left y : Nat) :
    FillFrame s (repeatFrom n left (fun x => fillPixel x y) w) :=
  repeatFrom_invariant (P := FillFrame s) (fun x _ hu => hu.pixel x y) _ _ h

theorem fillRow_fbi (left n : Nat) (rgbOn : Bool) (y : Nat) (w : State) :
    (fillRow left n rgbOn y w).fbi = (repeatFrom n left (fun x => fillPixel x y) w).fbi := by
  unfold fillRow
  cases rgbOn <;> rfl

theorem FillFrame.setStats {s w : State} (h : FillFrame s w) (c : Stats) : FillFrame s (w.setStats c) where
  eq := by
    conv_lhs => rw [h.eq]
    rfl
  wf := h.wf

theorem FillFrame.row {s w : State} (h : FillFrame s w) (left n : Nat) (rgbOn : Bool) (y : Nat) :
    FillFrame s (fillRow left n rgbOn y w) := by
  unfold fillRow
  cases rgbOn with
  | false => exact h.repeatPixels n left y
  | true => exact (h.repeatPixels n left y).setStats _

theorem FillFrame.refl {s : State} (h : s.fbi.ram.wf = true) : FillFrame s s := ⟨rfl, h⟩

theorem fillLoop_frame {s : State} (h : s.fbi.ram.wf = true) (left right low high : Nat) (rgbOn : Bool) :
    FillFrame s (fillLoop left right low high rgbOn s) :=
  repeatFrom_invariant (P := FillFrame s) (fun y _ hu => hu.row _ _ _ y) _ _ (FillFrame.refl h)

/-- A byte that no pixel of the rectangle touches is unchanged. -/
theorem fillLoop_read {s : State} (h : s.fbi.ram.wf = true) {left right low high : Nat} {rgbOn : Bool} {a : Nat}
    (ha : ∀ x y, insideRect left right low high x y → ¬ fillTouches s x y a) :
    (fillLoop left right low high rgbOn s).fbi.ram.read a = s.fbi.ram.read a := by
  have hloop : (fun w => FillFrame s w ∧ w.fbi.ram.read a = s.fbi.ram.read a)
      (fillLoop left right low high rgbOn s) := by
    refine repeatFrom_invariant_range (P := fun w => FillFrame s w ∧ w.fbi.ram.read a = s.fbi.ram.read a)
      (fun y w hlow hhigh hw => ⟨hw.1.row _ _ _ y, ?_⟩) ⟨FillFrame.refl h, rfl⟩
    rw [fillRow_fbi]
    refine (repeatFrom_invariant_range (P := fun u => FillFrame s u ∧ u.fbi.ram.read a = s.fbi.ram.read a)
      (fun x u hleft hright hu => ⟨hu.1.pixel x y, ?_⟩) hw).2
    rw [hu.1.fillPixel_read (ha x y ⟨hleft, by omega, by omega, by omega⟩), hu.2]
  exact hloop.2

/-- A word that its own pixel gives a value, and that no other pixel of the rectangle touches, holds the value. -/
theorem fillLoop_word {s : State} (h : s.fbi.ram.wf = true) {left right low high : Nat} {rgbOn : Bool} {x y a : Nat}
    {v : Half} (hin : insideRect left right low high x y)
    (hown : ∀ w, FillFrame s w → fbWord a (fillPixel x y w).fbi = v)
    (hother : ∀ x' y', insideRect left right low high x' y' → ¬(x' = x ∧ y' = y) →
      ¬ fillTouches s x' y' a ∧ ¬ fillTouches s x' y' (a + 1)) :
    fbWord a (fillLoop left right low high rgbOn s).fbi = v := by
  obtain ⟨hleft, hright, hlow, hhigh⟩ := hin
  have hkeep : ∀ x' y' w, insideRect left right low high x' y' → ¬(x' = x ∧ y' = y) → FillFrame s w →
      fbWord a w.fbi = v → fbWord a (fillPixel x' y' w).fbi = v := by
    intro x' y' w hin' hne hw hv
    obtain ⟨h1, h2⟩ := hother x' y' hin' hne
    rw [fbWord_of_sameWord ⟨hw.fillPixel_read h1, hw.fillPixel_read h2⟩, hv]
  refine repeatFrom_establishes (P := FillFrame s) (Q := fun w => fbWord a w.fbi = v) hlow (by omega)
    (fun y' w hw => hw.row _ _ _ y') (fun w hw => ?_) (fun y' w h1 h2 hne hw hv => ?_) (FillFrame.refl h)
  · rw [fillRow_fbi]
    exact repeatFrom_establishes (P := FillFrame s) (Q := fun w => fbWord a w.fbi = v) hleft (by omega)
      (fun x' u hu => hu.pixel x' y) hown
      (fun x' u h1 h2 hne hu hv => hkeep x' y u ⟨h1, by omega, hlow, hhigh⟩ (fun e => hne e.1) hu hv) hw
  · rw [fillRow_fbi]
    have hrow : (fun u => FillFrame s u ∧ fbWord a u.fbi = v)
        (repeatFrom (right - left) left (fun x => fillPixel x y') w) :=
      repeatFrom_invariant_range (P := fun u => FillFrame s u ∧ fbWord a u.fbi = v)
        (fun x' u h3 h4 hu => ⟨hu.1.pixel x' y',
          hkeep x' y' u ⟨h3, by omega, by omega, by omega⟩ (fun e => hne e.2) hu.1 hu.2⟩) ⟨hw, hv⟩
    exact hrow.2

/-- Every pixel of the rectangle inside RAM holds its colour word (R384). -/
theorem fillLoop_colour {s : State} (h : s.fbi.ram.wf = true) {left right low high : Nat} {rgbOn : Bool}
    (hmask : FbzMode.rgbBufferMask (s.reg 0 Reg.fbzMode) = true)
    (hapart : FbzMode.auxBufferMask (s.reg 0 Reg.fbzMode) = true →
      wordsApart s (drawBase s) (insideRect left right low high))
    (hpitch : right ≤ s.fbi.rowpixels.toNat) (hrows : rowsApart s (insideRect left right low high)) {b : Word} {x y : Nat}
    (hbase : drawBase s = some b) (hin : insideRect left right low high x y) (hfit : pixelFits s b x y) :
    fbWord (pixelAddress s b x y) (fillLoop left right low high rgbOn s).fbi = fillColour s x y := by
  refine fillLoop_word h hin (fun w hw => hw.fillPixel_colour hmask hbase hfit fun haux a ho ho' =>
    hapart haux x y x y a hin hin ⟨ho, ho'⟩) fun x' y' hin' hne => ?_
  have hfree : ∀ a, ownsByte s.fbi (drawBase s) x (screenY s y) a → ¬ fillTouches s x' y' a := by
    rintro a ho (⟨-, ho'⟩ | ⟨haux, ho'⟩)
    · obtain ⟨hx, hsy⟩ := ownsByte_unique (hin'.2.1.trans_le hpitch) (hin.2.1.trans_le hpitch) ho' ho
      exact hne ⟨hx, hrows _ _ _ _ hin' hin hsy⟩
    · exact hapart haux x y x' y' a hin hin' ⟨ho, ho'⟩
  exact ⟨hfree _ (by rw [hbase]; exact .inl rfl), hfree _ (by rw [hbase]; exact .inr rfl)⟩

/-- Every pixel of the rectangle inside RAM holds its aux word (R384). -/
theorem fillLoop_aux {s : State} (h : s.fbi.ram.wf = true) {left right low high : Nat} {rgbOn : Bool}
    (hmask : FbzMode.auxBufferMask (s.reg 0 Reg.fbzMode) = true)
    (hapart : FbzMode.rgbBufferMask (s.reg 0 Reg.fbzMode) = true →
      wordsApart s (drawBase s) (insideRect left right low high))
    (hpitch : right ≤ s.fbi.rowpixels.toNat) (hrows : rowsApart s (insideRect left right low high)) {b : Word} {x y : Nat}
    (hbase : s.fbi.auxoffs = some b) (hin : insideRect left right low high x y) (hfit : pixelFits s b x y) :
    fbWord (pixelAddress s b x y) (fillLoop left right low high rgbOn s).fbi = fillAux s := by
  refine fillLoop_word h hin (fun w hw => hw.fillPixel_aux hmask hbase hfit) fun x' y' hin' hne => ?_
  have hfree : ∀ a, ownsByte s.fbi s.fbi.auxoffs x (screenY s y) a → ¬ fillTouches s x' y' a := by
    rintro a ho (⟨hrgb, ho'⟩ | ⟨-, ho'⟩)
    · exact hapart hrgb x' y' x y a hin' hin ⟨ho', ho⟩
    · obtain ⟨hx, hsy⟩ := ownsByte_unique (hin'.2.1.trans_le hpitch) (hin.2.1.trans_le hpitch) ho' ho
      exact hne ⟨hx, hrows _ _ _ _ hin' hin hsy⟩
  exact ⟨hfree _ (by rw [hbase]; exact .inl rfl), hfree _ (by rw [hbase]; exact .inr rfl)⟩

/-! ## Counts (R28, R384) -/

theorem repeatPixels_stats (n left y : Nat) (w : State) :
    (repeatFrom n left (fun x => fillPixel x y) w).stats = w.stats := by
  refine repeatFrom_invariant (P := fun u => u.stats = w.stats) (fun x u hu => ?_) _ _ rfl
  have step : ∀ (f : Bool) (b : Option Word) (sy : Nat) (v : Half) (u : State),
      (if f = true then bufferWrite b x sy v u else u).stats = u.stats := by
    intro f b sy v u
    split
    · rw [bufferWrite_eq]
    · rfl
  exact ((step _ _ _ _ _).trans (step _ _ _ _ _)).trans hu

/-- Each row with colour on counts its pixels. -/
theorem fillLoop_stats (left right low high : Nat) (rgbOn : Bool) (s : State) :
    (fillLoop left right low high rgbOn s).stats =
      s.stats.add .pixelsOut (if rgbOn = true then BitVec.ofNat 32 ((right - left) * (high - low)) else 0) := by
  unfold fillLoop
  generalize right - left = n
  generalize high - low = rows
  have hrow : ∀ y w, (fillRow left n rgbOn y w).stats =
      w.stats.add .pixelsOut (if rgbOn = true then BitVec.ofNat 32 n else 0) := by
    intro y w
    unfold fillRow
    cases rgbOn with
    | false => simp [repeatPixels_stats, Stats.add]
    | true => simp [repeatPixels_stats]
  induction rows generalizing low s with
  | zero => simp [repeatFrom, Stats.add]
  | succ rows ih =>
    rw [repeatFrom, ih, hrow]
    cases rgbOn with
    | false => simp [Stats.add]
    | true =>
      have hsum : BitVec.ofNat 32 n + BitVec.ofNat 32 (n * rows) = BitVec.ofNat 32 (n * (rows + 1)) := by
        rw [← BitVec.ofNat_add, Nat.mul_succ, Nat.add_comm]
      simp only [Stats.add, if_true, BitVec.add_assoc, hsum]

/-! ## The command (R152, R384) -/

/-- The rows of the clip rectangle, counted where the command draws colour. -/
def clipLoop (s : State) : State :=
  fillLoop (ClipX.left s.config.constants (s.reg 0 Reg.clipLeftRight))
    (ClipX.right s.config.constants (s.reg 0 Reg.clipLeftRight))
    (ClipY.lowY s.config.constants (s.reg 0 Reg.clipLowYHighY))
    (ClipY.highY s.config.constants (s.reg 0 Reg.clipLowYHighY))
    (FbzMode.rgbBufferMask (s.reg 0 Reg.fbzMode) &&
      decide (FbzMode.drawBuffer s.config.constants (s.reg 0 Reg.fbzMode) < 2)) s

/-- With a mask on, fastfill is its loop and the fold. -/
theorem fastfill_eq_fold {s : State} (h : FbzMode.rgbBufferMask (s.reg 0 Reg.fbzMode) = true ∨
    FbzMode.auxBufferMask (s.reg 0 Reg.fbzMode) = true) : fastfill s = foldStats (clipLoop s) := by
  unfold fastfill
  simp only []
  rw [if_neg]
  · rfl
  · rcases h with h | h <;> simp [h]

/-- With both masks off it changes nothing (R384). -/
theorem fastfill_masked {s : State} (h : ¬(FbzMode.rgbBufferMask (s.reg 0 Reg.fbzMode) = true ∨
    FbzMode.auxBufferMask (s.reg 0 Reg.fbzMode) = true)) : fastfill s = s := by
  unfold fastfill
  simp only []
  rw [if_pos]
  simpa using h

end Sys2Proof.Machine
end

section
/-! SUPPORT. What fastfill does, with its masks on or off, and the write of its register (O29). -/

namespace Sys2Proof.Machine

open Sys2Proof

/-! ## The rectangle of a command -/

/-- The pixels of the clip rectangle (R384). -/
def inClip (s : State) (x y : Nat) : Prop :=
  insideRect (ClipX.left s.config.constants (s.reg 0 Reg.clipLeftRight))
    (ClipX.right s.config.constants (s.reg 0 Reg.clipLeftRight))
    (ClipY.lowY s.config.constants (s.reg 0 Reg.clipLowYHighY))
    (ClipY.highY s.config.constants (s.reg 0 Reg.clipLowYHighY)) x y

/-- The area of the clip rectangle where the command draws colour, else 0. -/
def clipArea (s : State) : Word :=
  if FbzMode.rgbBufferMask (s.reg 0 Reg.fbzMode) = true ∧
      FbzMode.drawBuffer s.config.constants (s.reg 0 Reg.fbzMode) < 2 then
    BitVec.ofNat 32 ((ClipX.right s.config.constants (s.reg 0 Reg.clipLeftRight) -
        ClipX.left s.config.constants (s.reg 0 Reg.clipLeftRight)) *
      (ClipY.highY s.config.constants (s.reg 0 Reg.clipLowYHighY) -
        ClipY.lowY s.config.constants (s.reg 0 Reg.clipLowYHighY)))
  else 0

/-- `t` is `s` after a fastfill (R28, R384): words, counts and frame. -/
structure ClipFilled (s t : State) : Prop where
  frame : t = { s with regs := t.regs, stats := t.stats, fbi := { s.fbi with ram := t.fbi.ram } }
  bytes : ∀ a, (∀ x y, inClip s x y → ¬ pixelByte s.fbi (drawBase s) x (screenY s y) a) →
    t.fbi.ram.read a = s.fbi.ram.read a
  colour : FbzMode.rgbBufferMask (s.reg 0 Reg.fbzMode) = true →
    (FbzMode.auxBufferMask (s.reg 0 Reg.fbzMode) = true → wordsApart s (drawBase s) (inClip s)) →
    ClipX.right s.config.constants (s.reg 0 Reg.clipLeftRight) ≤ s.fbi.rowpixels.toNat → rowsApart s (inClip s) →
    ∀ b x y, drawBase s = some b → inClip s x y → pixelFits s b x y → pixelWord s t b x y = fillColour s x y
  aux : FbzMode.auxBufferMask (s.reg 0 Reg.fbzMode) = true →
    (FbzMode.rgbBufferMask (s.reg 0 Reg.fbzMode) = true → wordsApart s (drawBase s) (inClip s)) →
    ClipX.right s.config.constants (s.reg 0 Reg.clipLeftRight) ≤ s.fbi.rowpixels.toNat → rowsApart s (inClip s) →
    ∀ b x y, s.fbi.auxoffs = some b → inClip s x y → pixelFits s b x y → pixelWord s t b x y = fillAux s
  pixelsOut : t.pixelsOutTotal = s.pixelsOutTotal + clipArea s
  pixelsIn : t.pixelsInTotal = s.pixelsInTotal
  chromaFail : t.chromaFailTotal = s.chromaFailTotal
  zfuncFail : t.zfuncFailTotal = s.zfuncFailTotal
  afuncFail : t.afuncFailTotal = s.afuncFailTotal
  stipple : t.stats.stippleCount = s.stats.stippleCount
  folded : FbzMode.rgbBufferMask (s.reg 0 Reg.fbzMode) = true ∨ FbzMode.auxBufferMask (s.reg 0 Reg.fbzMode) = true →
    t.stats.pixelsOut = 0

theorem pixelByte_of_fillTouches {s : State} {x y a : Nat} (h : fillTouches s x y a) :
    pixelByte s.fbi (drawBase s) x (screenY s y) a :=
  h.imp And.right And.right

/-- With both masks off nothing is drawn, counted or folded (R384). -/
theorem clipFilled_masked {s : State} (h : ¬(FbzMode.rgbBufferMask (s.reg 0 Reg.fbzMode) = true ∨
    FbzMode.auxBufferMask (s.reg 0 Reg.fbzMode) = true)) : ClipFilled s s where
  frame := rfl
  bytes := fun _ _ => rfl
  colour := fun hmask => absurd (.inl hmask) h
  aux := fun hmask => absurd (.inr hmask) h
  pixelsOut := by
    have hoff : clipArea s = 0 := if_neg fun hon => h (.inl hon.1)
    rw [hoff]
    exact (BitVec.add_zero _).symm
  pixelsIn := rfl
  chromaFail := rfl
  zfuncFail := rfl
  afuncFail := rfl
  stipple := rfl
  folded := fun hmask => absurd hmask h

theorem foldStats_fbi (w : State) : (foldStats w).fbi = w.fbi := rfl

theorem foldStats_pixelsOut (w : State) : (foldStats w).stats.pixelsOut = 0 := rfl

theorem foldStats_stippleCount (w : State) : (foldStats w).stats.stippleCount = w.stats.stippleCount := rfl

/-- The fold after a loop that touched framebuffer RAM and counts alone. -/
theorem FillFrame.foldStats_frame {s w : State} (h : FillFrame s w) : foldStats w =
    { s with
      regs := (foldStats w).regs, stats := (foldStats w).stats,
      fbi := { s.fbi with ram := (foldStats w).fbi.ram } } := by
  have hkeep : ∀ (regs : Memory 32) (stats : Stats), ({ w with regs := regs, stats := stats } : State) =
      { s with regs := regs, stats := stats, fbi := { s.fbi with ram := w.fbi.ram } } := by
    intro regs stats
    conv_lhs => rw [h.eq]
  exact hkeep _ _

/-- The totals after a loop that counted pixels out alone. -/
theorem FillFrame.totals {s w : State} (h : FillFrame s w) (hw : s.regs.wf = true) {n : Word}
    (hstats : w.stats = s.stats.add .pixelsOut n) :
    (foldStats w).pixelsOutTotal = s.pixelsOutTotal + n ∧ (foldStats w).pixelsInTotal = s.pixelsInTotal ∧
      (foldStats w).chromaFailTotal = s.chromaFailTotal ∧ (foldStats w).zfuncFailTotal = s.zfuncFailTotal ∧
      (foldStats w).afuncFailTotal = s.afuncFailTotal ∧ (foldStats w).stats.stippleCount = s.stats.stippleCount := by
  have hregs : w.regs = s.regs := (congrArg State.regs h.eq :)
  have hreg : ∀ i, w.reg 0 i = s.reg 0 i := fun i => by simp only [State.reg, hregs]
  obtain ⟨hin, hchroma, hz, ha, hout⟩ := foldStats_totals (s := w) (hregs ▸ hw)
  refine ⟨hout.trans ?_, hin.trans ?_, hchroma.trans ?_, hz.trans ?_, ha.trans ?_, ?_⟩
  · simp only [State.pixelsOutTotal, hreg, hstats, Stats.add, BitVec.add_assoc]
  · simp only [State.pixelsInTotal, hreg, hstats, Stats.add]
  · simp only [State.chromaFailTotal, hreg, hstats, Stats.add]
  · simp only [State.zfuncFailTotal, hreg, hstats, Stats.add]
  · simp only [State.afuncFailTotal, hreg, hstats, Stats.add]
  · rw [foldStats_stippleCount, hstats]
    rfl

/-- Fastfill fills the clip rectangle and nothing else (R384). -/
theorem fastfill_fills {s : State} (hw : s.regs.wf = true) (h : s.fbi.ram.wf = true) : ClipFilled s (fastfill s) := by
  by_cases hmask : FbzMode.rgbBufferMask (s.reg 0 Reg.fbzMode) = true ∨
      FbzMode.auxBufferMask (s.reg 0 Reg.fbzMode) = true
  · rw [fastfill_eq_fold hmask]
    have hframe : FillFrame s (clipLoop s) := fillLoop_frame h _ _ _ _ _
    have hcount : (clipLoop s).stats = s.stats.add .pixelsOut (clipArea s) := by
      refine (fillLoop_stats _ _ _ _ _ s).trans ?_
      unfold clipArea
      simp only [Bool.and_eq_true, decide_eq_true_eq]
    obtain ⟨hout, hin, hchroma, hz, ha, hstipple⟩ := hframe.totals hw hcount
    exact {
      frame := hframe.foldStats_frame
      bytes := fun a ha => by
        rw [foldStats_fbi]
        exact fillLoop_read h fun x y hxy ht => ha x y hxy (pixelByte_of_fillTouches ht)
      colour := fun hon hapart hpitch hrows b x y hb hxy hfit => by
        unfold pixelWord
        rw [foldStats_fbi]
        exact fillLoop_colour h hon hapart hpitch hrows hb hxy hfit
      aux := fun hon hapart hpitch hrows b x y hb hxy hfit => by
        unfold pixelWord
        rw [foldStats_fbi]
        exact fillLoop_aux h hon hapart hpitch hrows hb hxy hfit
      pixelsOut := hout
      pixelsIn := hin
      chromaFail := hchroma
      zfuncFail := hz
      afuncFail := ha
      stipple := hstipple
      folded := fun _ => foldStats_pixelsOut _ }
  · rw [fastfill_masked hmask]
    exact clipFilled_masked hmask

/-- Fastfill sets no register but the five that the fold does (R28). -/
theorem fastfill_reg {s : State} (h : s.fbi.ram.wf = true) {bank i : Nat} (hi : i < 256)
    (hne : ¬(bank = 0 ∧ Reg.fbiPixelsIn ≤ i ∧ i ≤ Reg.fbiPixelsOut)) : (fastfill s).reg bank i = s.reg bank i := by
  by_cases hmask : FbzMode.rgbBufferMask (s.reg 0 Reg.fbzMode) = true ∨
      FbzMode.auxBufferMask (s.reg 0 Reg.fbzMode) = true
  · have hframe : FillFrame s (clipLoop s) := fillLoop_frame h _ _ _ _ _
    rw [fastfill_eq_fold hmask, foldStats_reg_other hi hne, hframe.eq]
    rfl
  · rw [fastfill_masked hmask]

/-! ## The write of fastfillCMD (R152) -/

/-- The write's own store, which fastfill starts from. -/
def fastfillStored (k : BitVec 4) (v : Word) (s : State) : State := storeBanks (selectOf s.config k) 0x49 v s

theorem fastfillStored_eq (k : BitVec 4) (v : Word) (s : State) :
    fastfillStored k v s = { s with regs := (fastfillStored k v s).regs } := storeBanks_eq _ _ _ _

/-- Fastfill reads no register that its own store sets. -/
theorem fastfillStored_reg {s : State} (hw : s.regs.wf = true) (k : BitVec 4) (v : Word) {i : Nat} (hi : i < 256)
    (hne : i ≠ 0x49) : (fastfillStored k v s).reg 0 i = s.reg 0 i := by
  unfold fastfillStored
  rw [storeBanks_slots hw k (by decide) v (by decide) hi, if_neg fun h => hne h.1]

theorem exec_fastfillCMD {s : State} (h : Accepts s 0x49) (k : BitVec 4) (v : Word) :
    exec (.fastfillCMD k v) s = done (if selected s.config k 0 = true then fastfill (fastfillStored k v s)
      else fastfillStored k v s) := by
  have hrun := regWrite_accepted h .fastfill k v
  rw [← selectOf_fbi]
  exact hrun

/-- The drawing settings before and after the store. -/
structure SameDrawing (s u : State) : Prop where
  eq : u = { s with regs := u.regs }
  reg : ∀ i, i < 256 → i ≠ 0x49 → u.reg 0 i = s.reg 0 i

namespace SameDrawing

variable {s u : State}

theorem config (h : SameDrawing s u) : u.config = s.config := (congrArg State.config h.eq :)

theorem fbi (h : SameDrawing s u) : u.fbi = s.fbi := (congrArg State.fbi h.eq :)

theorem stats (h : SameDrawing s u) : u.stats = s.stats := (congrArg State.stats h.eq :)

theorem drawBase_eq (h : SameDrawing s u) : drawBase u = drawBase s := by
  unfold drawBase
  rw [h.config, h.fbi, h.reg _ (by decide) (by decide)]

theorem screenY_eq (h : SameDrawing s u) (y : Nat) : screenY u y = screenY s y := by
  unfold screenY flipY
  rw [h.config, h.fbi, h.reg _ (by decide) (by decide)]

theorem fillColour_eq (h : SameDrawing s u) (x y : Nat) : fillColour u x y = fillColour s x y := by
  unfold fillColour
  rw [h.config, h.reg _ (by decide) (by decide), h.reg _ (by decide) (by decide)]

theorem fillAux_eq (h : SameDrawing s u) : fillAux u = fillAux s := by
  unfold fillAux
  simp only [h.config, h.reg Reg.zaColor (by decide) (by decide), h.reg Reg.fbzMode (by decide) (by decide)]

theorem inClip_eq (h : SameDrawing s u) : inClip u = inClip s := by
  unfold inClip
  rw [h.config, h.reg _ (by decide) (by decide), h.reg _ (by decide) (by decide)]

theorem clipArea_eq (h : SameDrawing s u) : clipArea u = clipArea s := by
  unfold clipArea
  simp only [h.config, h.reg Reg.fbzMode (by decide) (by decide), h.reg Reg.clipLeftRight (by decide) (by decide),
    h.reg Reg.clipLowYHighY (by decide) (by decide)]

theorem wordsApart_iff (h : SameDrawing s u) (base : Option Word) (inside : Nat → Nat → Prop) :
    wordsApart u base inside ↔ wordsApart s base inside := by
  unfold wordsApart
  simp only [h.screenY_eq, h.fbi]

theorem rowsApart_iff (h : SameDrawing s u) (inside : Nat → Nat → Prop) :
    rowsApart u inside ↔ rowsApart s inside := by
  unfold rowsApart
  simp only [h.screenY_eq]

theorem pixelFits_iff (h : SameDrawing s u) (b : Word) (x y : Nat) : pixelFits u b x y ↔ pixelFits s b x y := by
  unfold pixelFits
  rw [h.screenY_eq, h.fbi]

theorem pixelWord_eq (h : SameDrawing s u) (t : State) (b : Word) (x y : Nat) :
    pixelWord u t b x y = pixelWord s t b x y := by
  unfold pixelWord
  rw [h.screenY_eq, h.fbi]

theorem totals (h : SameDrawing s u) : u.pixelsOutTotal = s.pixelsOutTotal ∧ u.pixelsInTotal = s.pixelsInTotal ∧
    u.chromaFailTotal = s.chromaFailTotal ∧ u.zfuncFailTotal = s.zfuncFailTotal ∧
    u.afuncFailTotal = s.afuncFailTotal := by
  simp only [State.pixelsOutTotal, State.pixelsInTotal, State.chromaFailTotal, State.zfuncFailTotal,
    State.afuncFailTotal, h.stats, h.reg Reg.fbiPixelsOut (by decide) (by decide),
    h.reg Reg.fbiPixelsIn (by decide) (by decide), h.reg Reg.fbiChromaFail (by decide) (by decide),
    h.reg Reg.fbiZfuncFail (by decide) (by decide), h.reg Reg.fbiAfuncFail (by decide) (by decide), and_self]

/-- A fill with the same drawing settings is a fill of the first state. -/
theorem clipFilled {t : State} (h : SameDrawing s u) (ht : ClipFilled u t) : ClipFilled s t := by
  have hfbz : u.reg 0 Reg.fbzMode = s.reg 0 Reg.fbzMode := h.reg _ (by decide) (by decide)
  have hclip : u.reg 0 Reg.clipLeftRight = s.reg 0 Reg.clipLeftRight := h.reg _ (by decide) (by decide)
  obtain ⟨hout, hin, hchroma, hz, ha⟩ := h.totals
  exact {
    frame := by rw [ht.frame, h.eq]
    bytes := by simpa only [h.inClip_eq, h.fbi, h.drawBase_eq, h.screenY_eq] using ht.bytes
    colour := by
      simpa only [hfbz, hclip, h.wordsApart_iff, h.rowsApart_iff, h.pixelFits_iff, h.pixelWord_eq, h.inClip_eq, h.config,
        h.fbi, h.drawBase_eq, h.fillColour_eq] using ht.colour
    aux := by
      simpa only [hfbz, hclip, h.wordsApart_iff, h.rowsApart_iff, h.pixelFits_iff, h.pixelWord_eq, h.inClip_eq, h.config,
        h.fbi, h.drawBase_eq, h.fillAux_eq] using ht.aux
    pixelsOut := by rw [ht.pixelsOut, hout, h.clipArea_eq]
    pixelsIn := ht.pixelsIn.trans hin
    chromaFail := ht.chromaFail.trans hchroma
    zfuncFail := ht.zfuncFail.trans hz
    afuncFail := ht.afuncFail.trans ha
    stipple := ht.stipple.trans (congrArg Stats.stippleCount h.stats)
    folded := by simpa only [hfbz] using ht.folded }

end SameDrawing

theorem fastfillStored_same {s : State} (hw : s.regs.wf = true) (k : BitVec 4) (v : Word) :
    SameDrawing s (fastfillStored k v s) where
  eq := fastfillStored_eq k v s
  reg := fun _ hi hne => fastfillStored_reg hw k v hi hne


/-- The registers and the fill that an accepted command leaves. -/
theorem fastfillStored_fills {s : State} (hw : s.regs.wf = true) (h : s.fbi.ram.wf = true) (k : BitVec 4) (v : Word) :
    ClipFilled s (fastfill (fastfillStored k v s)) ∧
      ∀ bank i, bank < 4 → i < 256 → ¬(bank = 0 ∧ Reg.fbiPixelsIn ≤ i ∧ i ≤ Reg.fbiPixelsOut) →
        (fastfill (fastfillStored k v s)).reg bank i =
          if i = 0x49 ∧ selected s.config k bank = true then v else s.reg bank i := by
  have hsame := fastfillStored_same hw k v
  have hram : (fastfillStored k v s).fbi.ram.wf = true := by rw [hsame.fbi, h]
  refine ⟨hsame.clipFilled (fastfill_fills (storeBanks_wf hw _ _ _) hram), fun bank i hb hi hne => ?_⟩
  rw [fastfill_reg hram hi hne]
  exact storeBanks_slots hw k (by decide) v hb hi

theorem fillAux_eq_ite (s : State) : fillAux s =
    if s.config.constants.fillAlphaPlane = true ∧ FbzMode.enableAlphaPlanes (s.reg 0 Reg.fbzMode) = true then
      BitVec.ofNat 16 (ZaColor.alpha s.config.constants (s.reg 0 Reg.zaColor))
    else BitVec.ofNat 16 (ZaColor.depth s.config.constants (s.reg 0 Reg.zaColor)) := by
  simp only [fillAux, Bool.and_eq_true]

/-- Settles O29: the command is its store and the loop over the clip rectangle, whose passes write one pixel each. -/
theorem fastfillPaintsTheClipRectangle : Obligations.FastfillPaintsTheClipRectangle := by
  refine ⟨fun k v s h hsel hram => ?_, fun k v s h hsel => ?_, fun v => ?_, rfl, rfl⟩
  · obtain ⟨hfill, hreg⟩ := fastfillStored_fills h.canonical hram k v
    have hexec := exec_fastfillCMD h k v
    rw [if_pos hsel] at hexec
    refine ⟨_, hexec, fun bank i hb hi hne => hreg bank i hb hi fun hc => hne ⟨hc.1, .inr hc.2⟩, ?_, ?_,
      hfill.bytes, hfill.colour, ?_, hfill.pixelsOut, hfill.pixelsIn,
      hfill.chromaFail, hfill.zfuncFail, hfill.afuncFail, hfill.stipple, hfill.folded⟩
    · exact (hreg 0 Reg.stipple (by decide) (by decide) (by decide)).trans (if_neg fun hc => absurd hc.1 (by decide))
    · exact congrArg (fun t : State => ({ t with result := none } : State)) hfill.frame
    · intro hmask hapart hpitch hrows b x y hb hxy hfit
      exact (hfill.aux hmask hapart hpitch hrows b x y hb hxy hfit).trans (fillAux_eq_ite s)
  · have hexec := exec_fastfillCMD h k v
    rw [if_neg (by rw [hsel]; decide)] at hexec
    refine ⟨_, hexec, ⟨rfl, fun bank i hb hi => storeBanks_slots h.canonical k (by decide) v hb hi⟩, ?_⟩
    exact congrArg (fun t : State => ({ t with result := none } : State)) (fastfillStored_eq k v s)
  · exact ⟨readField_run _ _ v, readField_run _ _ v, readField_run _ _ v, readField_run _ _ v, readField_run _ _ v,
      readField_run _ _ v, readField_run _ _ v⟩

end Sys2Proof.Machine
end

section
/-! SUPPORT. The derived tables of a unit: what they depend on, and that every operation leaves them fresh or marked
dirty (R94, R180, R433; O22). -/

namespace Sys2Proof.Machine

open Sys2Proof

/-! ## One unit -/

/-- The unit `g` with the derived tables of `t`, its RAM mask and its dirty mark. -/
def Tmu.withTables (t g : Tmu) : Tmu :=
  { g with
    mask := t.mask, lodmin := t.lodmin, lodmax := t.lodmax, lodbias := t.lodbias, lodmask := t.lodmask, wmask := t.wmask,
    hmask := t.hmask, lodoffset := t.lodoffset, detailmax := t.detailmax, detailbias := t.detailbias,
    detailscale := t.detailscale, texel := t.texel, lookup := t.lookup, regdirty := t.regdirty }

/-- The unit is marked dirty, or its tables are those that the four register values give. -/
def Tmu.FreshFor (c : Config) (mode tlod tdetail base : Word) (t : Tmu) : Prop :=
  t.regdirty = true ∨ recomputeFrom c mode tlod tdetail base t = t

/-- The recompute reads and writes nothing of the unit but its tables and its mask. -/
theorem recomputeFrom_withTables (c : Config) (m l d b : Word) (t g : Tmu) :
    recomputeFrom c m l d b (t.withTables g) = (recomputeFrom c m l d b t).withTables g := rfl

theorem Tmu.FreshFor.withTables {c : Config} {m l d b : Word} {t : Tmu} (h : t.FreshFor c m l d b) (g : Tmu) :
    (t.withTables g).FreshFor c m l d b :=
  h.imp id fun e => (recomputeFrom_withTables c m l d b t g).trans (congrArg (·.withTables g) e)

/-- A recomputed unit has the tables of its registers. -/
theorem recomputeFrom_freshFor (c : Config) (m l d b : Word) (t : Tmu) :
    (recomputeFrom c m l d b t).FreshFor c m l d b := .inr rfl

theorem freshTables_withTables (k : Constants) (mode : Word) (t : Tmu) :
    t.withTables (freshTables k mode t) = freshTables k mode t := by
  unfold freshTables
  split
  · split <;> rfl
  · rfl

theorem setTex_withTables (p : TexParam) (k : Part) (v : DWord) (t : Tmu) : t.withTables (setTex p k v t) = setTex p k v t := by
  cases p <;> rfl

theorem nccWrite_withTables (k : Constants) (v2 : Bool) (table : Fin 2) (n : Nat) (data : Word) (t : Tmu) :
    t.withTables (nccWrite k v2 table n data t) = nccWrite k v2 table n data t := by
  unfold nccWrite paletteWrite
  split
  · simp only []
    split <;> rfl
  · split <;> rfl

theorem uploadStore_withTables (k : Constants) (t : Tmu) (format : Nat) (offset d : Word) :
    t.withTables (uploadStore k t format offset d) = uploadStore k t format offset d := by
  unfold uploadStore
  simp only []
  split <;> rfl

/-! ## Both units of a state -/

/-- The registers of a unit that its recompute reads (R181–R188). -/
def texParams : List Nat := [Reg.textureMode, Reg.tLOD, Reg.tDetail, Reg.texBaseAddr]

theorem lt_of_mem_texParams {i : Nat} (hi : i ∈ texParams) : i < 256 :=
  (by decide : ∀ j ∈ texParams, j < 256) i hi

theorem State.setTmu_eq_self_iff (s : State) (u : Nat) (t : Tmu) : s.setTmu u t = s ↔ t = s.tmu u := by
  refine ⟨fun h => (State.setTmu_tmu s u t).symm.trans (congrArg (State.tmu · u) h), ?_⟩
  rintro rfl
  unfold State.setTmu State.tmu
  split <;> rfl

theorem State.unitFresh_iff (s : State) (u : Nat) :
    s.unitFresh u ↔ (s.tmu u).FreshFor s.config (s.texReg u Reg.textureMode) (s.texReg u Reg.tLOD)
      (s.texReg u Reg.tDetail) (s.texReg u Reg.texBaseAddr) :=
  or_congr_right (s.setTmu_eq_self_iff u _)

/-- The freshness of a unit depends on the configuration, its four registers, its mask and its tables alone. -/
theorem State.unitFresh.congr {s t : State} {u : Nat} (h : s.unitFresh u) (hc : t.config = s.config)
    (hr : ∀ i ∈ texParams, t.texReg u i = s.texReg u i) (ht : (s.tmu u).withTables (t.tmu u) = t.tmu u) :
    t.unitFresh u := by
  rw [State.unitFresh_iff] at h ⊢
  rw [hc, hr _ (by decide), hr _ (by decide), hr _ (by decide), hr _ (by decide), ← ht]
  exact h.withTables _

namespace State.tablesFresh

variable {s t : State}

theorem congr (h : s.tablesFresh) (hc : t.config = s.config) (hr : ∀ u, ∀ i ∈ texParams, t.texReg u i = s.texReg u i)
    (h0 : s.tmu0.withTables t.tmu0 = t.tmu0) (h1 : s.tmu1.withTables t.tmu1 = t.tmu1) : t.tablesFresh :=
  ⟨h.1.congr hc (hr 0) h0, h.2.congr hc (hr 1) h1⟩

/-- A change of anything but the configuration, the registers and the units' tables. -/
theorem of_fields (h : s.tablesFresh) (hc : t.config = s.config) (hr : t.regs = s.regs)
    (h0 : s.tmu0.withTables t.tmu0 = t.tmu0) (h1 : s.tmu1.withTables t.tmu1 = t.tmu1) : t.tablesFresh :=
  h.congr hc (fun _ _ _ => by unfold State.texReg State.reg; rw [hr]) h0 h1

theorem setResult (h : s.tablesFresh) (r : Option Word) : tablesFresh { s with result := r } := h.of_fields rfl rfl rfl rfl

theorem setFbi (h : s.tablesFresh) (f : Fbi) : (s.setFbi f).tablesFresh := h.of_fields rfl rfl rfl rfl

theorem setStats (h : s.tablesFresh) (c : Stats) : (s.setStats c).tablesFresh := h.of_fields rfl rfl rfl rfl

theorem drawn (h : s.tablesFresh) : s.drawn.tablesFresh := h.of_fields rfl rfl rfl rfl

theorem count (h : s.tablesFresh) (k : Counter) : (Machine.count k s).tablesFresh := h.setStats _

theorem drawsOnly (h : s.tablesFresh) (hd : Machine.drawsOnly s t) : t.tablesFresh := by
  obtain ⟨n, rfl⟩ := hd
  exact h.of_fields rfl rfl rfl rfl

theorem setReg (h : s.tablesFresh) {b i : Nat} (hi : i < 256) (hp : i ∉ texParams) (v : Word) :
    (s.setReg b i v).tablesFresh :=
  h.congr rfl (fun _ _ hj => State.reg_setReg_other s hi (lt_of_mem_texParams hj) v fun e => hp (e.2 ▸ hj)) rfl rfl

theorem ite (h : s.tablesFresh) {c : Prop} [Decidable c] (ht : t.tablesFresh) : (if c then t else s).tablesFresh := by
  split
  · exact ht
  · exact h

/-- A change of unit `u` that leaves its tables. -/
theorem setTmu (h : s.tablesFresh) {u : Nat} {g : Tmu} (hg : (s.tmu u).withTables g = g) : (s.setTmu u g).tablesFresh := by
  unfold State.tmu at hg
  unfold State.setTmu
  split
  · rename_i hu
    rw [if_pos hu] at hg
    exact h.of_fields rfl rfl hg rfl
  · rename_i hu
    rw [if_neg hu] at hg
    exact h.of_fields rfl rfl rfl hg

/-- The recompute of unit `u` makes it fresh and leaves the other as it was (R180). -/
theorem freshUnit (h : s.tablesFresh) {u : Nat} (hu : u < 2) : (Machine.freshUnit u s).tablesFresh := by
  unfold Machine.freshUnit
  split
  · have hself : (recomputeUnit u s).unitFresh u := by
      unfold recomputeUnit
      rw [State.unitFresh_iff, State.setTmu_tmu]
      simp only [State.texReg, State.reg_setTmu, State.setTmu_config]
      exact recomputeFrom_freshFor _ _ _ _ _ _
    obtain rfl | rfl : u = 0 ∨ u = 1 := by omega
    · exact ⟨hself, h.2.congr rfl (fun _ _ => rfl) rfl⟩
    · exact ⟨h.1.congr rfl (fun _ _ => rfl) rfl, hself⟩
  · exact h

theorem bufferWrite (h : s.tablesFresh) (base : Option Word) (x sy : Nat) (v : Half) :
    (Machine.bufferWrite base x sy v s).tablesFresh := by
  rw [bufferWrite_eq]
  exact h.setFbi _

theorem foldStats (h : s.tablesFresh) : (Machine.foldStats s).tablesFresh := by
  unfold Machine.foldStats
  refine setStats (setReg (setReg (setReg (setReg (setReg h ?_ ?_ _) ?_ ?_ _) ?_ ?_ _) ?_ ?_ _) ?_ ?_ _) _ <;> decide

theorem clearStats (h : s.tablesFresh) : (Machine.clearStats s).tablesFresh := by
  unfold Machine.clearStats
  refine setStats (setReg (setReg (setReg (setReg (setReg h ?_ ?_ _) ?_ ?_ _) ?_ ?_ _) ?_ ?_ _) ?_ ?_ _) _ <;> decide

theorem counterReset (h : s.tablesFresh) (clearAll clearTriangles : Bool) :
    (Machine.counterReset clearAll clearTriangles s).tablesFresh :=
  have h1 : State.tablesFresh (if clearAll = true then Machine.clearStats s else s) := h.ite h.clearStats
  h1.ite (h1.setReg (by decide) (by decide) _)

/-- A store in the selected banks of a register that no recompute reads. -/
theorem storeBanks (h : s.tablesFresh) (sel : Select) {i : Nat} (hi : i < 256) (hp : i ∉ texParams) (v : Word) :
    (Machine.storeBanks sel i v s).tablesFresh :=
  have step : ∀ {t : State} (b : Nat) (f : Bool), t.tablesFresh → State.tablesFresh (if f = true then t.setReg b i v else t) :=
    fun _ _ ht => ht.ite (ht.setReg hi hp v)
  step 2 _ (step 1 _ (step 0 _ h))

end State.tablesFresh

/-! ## The selected units -/

theorem Select.bank_succ (sel : Select) {u : Nat} (hu : u < 2) : sel.bank (u + 1) = sel.tmu u := by
  obtain rfl | rfl : u = 0 ∨ u = 1 := by omega
  · rfl
  · rfl

/-- A store leaves every slot of a bank that is not selected, whatever the register file holds (R131). -/
theorem storeBanks_reg_unselected (s : State) {sel : Select} {b : Nat} (hb : sel.bank b = false) {i j : Nat} (hi : i < 256)
    (hj : j < 256) (v : Word) : (storeBanks sel i v s).reg b j = s.reg b j := by
  have step : ∀ (t : State) (k : Nat) {f : Bool}, (f = true → b ≠ k) →
      (if f = true then t.setReg k i v else t).reg b j = t.reg b j := by
    intro t k f hf
    split
    · rename_i ht
      exact State.reg_setReg_other t hi hj v fun e => hf ht e.1
    · rfl
  have hne : ∀ k, sel.bank k = true → b ≠ k := by
    rintro k hk rfl
    simp [hk] at hb
  exact (step _ 2 (hne 2)).trans ((step _ 1 (hne 1)).trans (step s 0 (hne 0)))

theorem forUnits_eq (sel : Select) (change : Tmu → Tmu) (s : State) : forUnits sel change s =
    { s with
      tmu0 := if sel.tmu0 = true then change s.tmu0 else s.tmu0,
      tmu1 := if sel.tmu1 = true then change s.tmu1 else s.tmu1 } := by
  unfold forUnits
  cases sel.tmu0 <;> cases sel.tmu1 <;> rfl

theorem forUnits_tmu (sel : Select) (change : Tmu → Tmu) (s : State) {u : Nat} (hu : u < 2) :
    (forUnits sel change s).tmu u = if sel.tmu u = true then change (s.tmu u) else s.tmu u := by
  rw [forUnits_eq]
  obtain rfl | rfl : u = 0 ∨ u = 1 := by omega
  · rfl
  · rfl

/-- A unit that is not selected keeps its freshness where its own registers are kept; a selected one where the change
marks it dirty. -/
theorem State.unitFresh.forUnits {s t : State} {u : Nat} (hu : u < 2) (h : s.unitFresh u) (hc : t.config = s.config)
    (ht : t.tmu u = s.tmu u) {sel : Select} {change : Tmu → Tmu}
    (hr : sel.tmu u = false → ∀ i ∈ texParams, t.texReg u i = s.texReg u i)
    (hd : ∀ g, (change g).regdirty = true) : (Machine.forUnits sel change t).unitFresh u := by
  cases hs : sel.tmu u with
  | true =>
    left
    rw [forUnits_tmu _ _ _ hu, hs, if_pos rfl, hd]
  | false =>
    have hk : (Machine.forUnits sel change t).tmu u = s.tmu u := by
      rw [forUnits_tmu _ _ _ hu, hs, if_neg Bool.false_ne_true, ht]
    refine h.congr ?_ ?_ (by rw [hk]; rfl)
    · rw [forUnits_eq, ← hc]
    · rw [forUnits_eq]
      exact hr hs

/-- A change of the selected units that leaves their tables. -/
theorem State.tablesFresh.forUnits {s : State} (h : s.tablesFresh) (sel : Select) {change : Tmu → Tmu}
    (hc : ∀ g : Tmu, g.withTables (change g) = change g) : (Machine.forUnits sel change s).tablesFresh := by
  rw [forUnits_eq]
  refine h.of_fields rfl rfl ?_ ?_
  · show s.tmu0.withTables (if _ then _ else _) = _
    split
    · exact hc _
    · rfl
  · show s.tmu1.withTables (if _ then _ else _) = _
    split
    · exact hc _
    · rfl

/-- The write of a register that a recompute reads marks every unit whose copy it changes (R161, R180). -/
theorem State.tablesFresh.textureWrite {s : State} (h : s.tablesFresh) (sel : Select) {n : Nat} (hn : n < 256) (v : Word) :
    (Machine.forUnits sel (fun t => { t with regdirty := true }) (Machine.storeBanks sel n v s)).tablesFresh := by
  have hunit : ∀ u < 2, s.unitFresh u →
      (Machine.forUnits sel (fun t => { t with regdirty := true }) (Machine.storeBanks sel n v s)).unitFresh u := by
    intro u hu hs
    refine hs.forUnits hu ?_ ?_ (fun hsel i hi => ?_) fun _ => rfl
    · rw [storeBanks_eq]
    · rw [storeBanks_eq]
      rfl
    · exact storeBanks_reg_unselected s ((sel.bank_succ hu).trans hsel) hn (lt_of_mem_texParams hi) v
  exact ⟨hunit 0 (by decide) h.1, hunit 1 (by decide) h.2⟩

end Sys2Proof.Machine
end

section
/-! SUPPORT. Every stage of drawing and every operation leaves the derived tables of both units fresh or marked dirty
(R94, R180, R433; O22). -/

namespace Sys2Proof.Machine

open Sys2Proof

/-! ## The stages of a pixel -/

theorem stippleRotate_fresh {s : State} (h : s.tablesFresh) : (stippleRotate s).tablesFresh :=
  h.ite (h.setReg (by decide) (by decide) _)

theorem pixelFront_fresh {s : State} (h : s.tablesFresh) (x y : Nat) (z : Word) (w : DWord) :
    (pixelFront x y z w s).2.tablesFresh := by
  have hcount := stippleRotate_fresh (h.count .pixelsIn)
  have hread := hcount.drawsOnly (drawsOnly.of_state (depthRead_state (stippleRotate (count .pixelsIn s)) x (screenY s y)))
  unfold pixelFront
  simp only []
  split
  · exact h
  · split
    · exact hcount.count _
    · split
      · exact hread
      · exact hread.count _

theorem writeOut_fresh {s : State} (h : s.tablesFresh) (base : Option Word) (x y : Nat) (d : Depth) (c : Argb) :
    (writeOut base x y d c s).tablesFresh :=
  have step : ∀ (f : Bool) {t : State} (b : Option Word) (v : Half), t.tablesFresh →
      State.tablesFresh (if f = true then bufferWrite b x d.sy v t else t) := fun _ _ _ _ ht => ht.ite (ht.bufferWrite _ _ _ _)
  step _ _ _ (step _ _ _ h)

theorem pixelBack_fresh {s : State} (h : s.tablesFresh) (base : Option Word) (x y : Nat) (d : Depth) (z : Word) (w : DWord)
    (ia c : Argb) : (pixelBack base x y d z w ia c s).tablesFresh :=
  (writeOut_fresh (h.drawsOnly (alphaBlend_state _ _ _ _ _ _ _)) _ _ _ _ _).count _

theorem pixelColour_fresh {s : State} (h : s.tablesFresh) (x y : Nat) (d : Depth) (it : PixelIter) (tex : Argb) :
    (pixelColour x y d it tex s).tablesFresh := by
  unfold pixelColour
  simp only []
  split
  · exact h.count _
  · split
    · exact h.count _
    · split
      · exact h.count _
      · exact pixelBack_fresh h _ _ _ _ _ _ _ _

/-- A fetch rebuilds NCC entries, which no recompute reads (R189). -/
theorem texUnit_fresh {u x y : Nat} {it : UnitIter} {o c : Argb} {s t : State} (h : s.tablesFresh)
    (ht : texUnit u x y it o s = .ok (c, t)) : t.tablesFresh := by
  unfold texUnit at ht
  simp only [] at ht
  split at ht
  · cases ht
  · cases ht
    exact h.setTmu (freshTables_withTables _ _ _)

theorem textureStep_fresh {u x y : Nat} (hu : u < 2) {it : UnitIter} {o c : Argb} {s t : State} (h : s.tablesFresh)
    (ht : textureStep u x y it o s = .ok (c, t)) : t.tablesFresh := by
  unfold textureStep at ht
  simp only [] at ht
  split at ht
  · exact texUnit_fresh (h.freshUnit hu) ht
  · cases ht
    exact h.freshUnit hu

theorem textureStage_fresh {n x y : Nat} {it0 it1 : UnitIter} {c : Argb} {s t : State} (h : s.tablesFresh)
    (ht : textureStage n x y it0 it1 s = .ok (c, t)) : t.tablesFresh := by
  have pass : ∀ {p : Prop} [Decidable p] {u : Nat}, u < 2 → ∀ {it : UnitIter} {o c : Argb} {s t : State}, s.tablesFresh →
      (if p then textureStep u x y it o s else .ok (o, s)) = Except.ok (c, t) → t.tablesFresh := by
    intro p _ u hu it o c s t hs hp
    split at hp
    · exact textureStep_fresh hu hs hp
    · cases hp
      exact hs
  unfold textureStage at ht
  simp only [] at ht
  split at ht
  · cases ht
  · rename_i first
    exact pass (by decide) (pass (by decide) h first) ht

theorem pixel_fresh {n x y : Nat} {it : PixelIter} {it0 it1 : UnitIter} {s t : State} (h : s.tablesFresh)
    (ht : pixel n x y it it0 it1 s = .next t) : t.tablesFresh := by
  have hfront := pixelFront_fresh h x y it.z it.w
  unfold pixel at ht
  split at ht
  · rename_i e
    cases ht
    rw [e] at hfront
    exact hfront
  · rename_i e
    rw [e] at hfront
    split at ht
    · cases ht
    · rename_i hstage
      cases ht
      exact pixelColour_fresh (textureStage_fresh hfront hstage) _ _ _ _ _

theorem rasterize_fresh {n : Snapshot} {s t : State} (h : s.tablesFresh) (ht : rasterize n s = .next t) : t.tablesFresh := by
  unfold rasterize at ht
  refine forRange_invariant (P := State.tablesFresh) (fun y u v _ _ hu hv => ?_) h ht
  unfold rasterRow at hv
  exact forRange_invariant (P := State.tablesFresh) (fun x u v _ _ hu hv => pixel_fresh hu hv) hu hv

/-! ## LFB writes and fastfill -/

theorem lfbPipelinePixel_fresh {s : State} (h : s.tablesFresh) (base : Option Word) (x y : Nat) (p : LfbPixel) :
    (lfbPipelinePixel base x y p s).tablesFresh := by
  have hfront := pixelFront_fresh h x y (p.z s.config.constants) (p.iw s.config.constants)
  unfold lfbPipelinePixel
  split
  · rename_i e
    rw [e] at hfront
    exact hfront
  · rename_i e
    rw [e] at hfront
    unfold lfbPipelineColour
    simp only []
    split
    · exact hfront.count _
    · split
      · exact hfront.count _
      · split
        · exact hfront.count _
        · exact pixelBack_fresh hfront _ _ _ _ _ _ _ _

theorem lfbRawPixel_fresh {s : State} (h : s.tablesFresh) (base : Option Word) (x y : Nat) (p : LfbPixel) :
    (lfbRawPixel base x y p s).tablesFresh := by
  have hcolour : (rawColour base x y p s).tablesFresh := h.ite (h.bufferWrite _ _ _ _)
  have haux : ∀ {t : State}, t.tablesFresh → (rawAux x y p t).tablesFresh := by
    intro t ht
    have hwrite : ∀ (f : Bool) (v : Half),
        State.tablesFresh (if f = true then bufferWrite t.fbi.auxoffs x (lfbRow t y) v t else t) :=
      fun _ _ => ht.ite (ht.bufferWrite _ _ _ _)
    unfold rawAux
    simp only []
    split
    · split
      · exact hwrite _ _
      · exact hwrite _ _
    · exact ht
  exact (haux hcolour).count _

theorem lfbPixel_fresh {s : State} (h : s.tablesFresh) (pipeline : Bool) (base : Option Word) (x y : Nat) (p : LfbPixel) :
    (lfbPixel pipeline base x y p s).tablesFresh := by
  unfold lfbPixel
  split
  · exact h
  · split
    · exact lfbPipelinePixel_fresh h _ _ _ _
    · exact lfbRawPixel_fresh h _ _ _ _

theorem lfbPixels_fresh {s : State} (h : s.tablesFresh) (pipeline : Bool) (base : Option Word) (offset : Word) (w : LfbWord) :
    (lfbPixels pipeline base offset w s).tablesFresh := by
  unfold lfbPixels
  split
  · exact lfbPixel_fresh h _ _ _ _ _
  · exact lfbPixel_fresh (lfbPixel_fresh h _ _ _ _ _) _ _ _ _ _

theorem fillPixel_fresh {s : State} (h : s.tablesFresh) (x y : Nat) : (fillPixel x y s).tablesFresh :=
  have step : ∀ (f : Bool) {t : State} (b : Option Word) (v : State → Half), t.tablesFresh →
      State.tablesFresh (if f = true then bufferWrite b x (screenY s y) (v t) t else t) :=
    fun _ _ _ _ ht => ht.ite (ht.bufferWrite _ _ _ _)
  step _ _ fillAux (step _ _ (fun _ => _) h)

theorem fastfill_fresh {s : State} (h : s.tablesFresh) : (fastfill s).tablesFresh := by
  have hrow : ∀ (sx n : Nat) (rgbOn : Bool) (y : Nat) {t : State}, t.tablesFresh → (fillRow sx n rgbOn y t).tablesFresh :=
    fun sx n _ y t ht =>
      have hpixels := repeatFrom_invariant (P := State.tablesFresh) (fun x u hu => fillPixel_fresh hu x y) n sx ht
      hpixels.ite (hpixels.setStats _)
  unfold fastfill
  simp only []
  split
  · exact h
  · exact (repeatFrom_invariant (P := State.tablesFresh) (fun y _ hu => hrow _ _ _ y hu) _ _ h).foldStats

/-! ## Triangles -/

theorem adjusted_fresh {s : State} (h : s.tablesFresh) : (adjusted s).tablesFresh := by
  refine h.ite (h.of_fields rfl rfl ?_ ?_) <;> (unfold subpixelAdjust; simp only []; split <;> rfl)

theorem resolve_fresh {n : Nat} {s t : State} (h : s.tablesFresh) (ht : resolve n s = some t) : t.tablesFresh := by
  unfold resolve at ht
  split at ht
  · cases ht
    exact h.of_fields rfl rfl rfl rfl
  · cases ht

theorem submitTriangle_fresh {s t : State} (h : s.tablesFresh) (ht : submitTriangle s = .next t) : t.tablesFresh := by
  have hadjusted := adjusted_fresh h
  unfold submitTriangle at ht
  simp only [] at ht
  split at ht
  · cases ht
    exact hadjusted.setResult _
  · split at ht
    · cases ht
      exact hadjusted.of_fields rfl rfl rfl rfl
    · rename_i hres
      obtain ⟨u, hu, hdone⟩ := andThen_eq_next ht
      cases hdone
      have hdrawn := rasterize_fresh (resolve_fresh hadjusted hres) hu
      exact (hdrawn.foldStats.setReg (by decide) (by decide) _).setResult _

theorem setupGradients_fresh {s : State} (h : s.tablesFresh) : (setupGradients s).tablesFresh := by
  refine h.of_fields rfl rfl ?_ ?_ <;> (unfold setupGradients; simp only []; split <;> rfl)

theorem appendStrip_fresh {s t : State} (h : s.tablesFresh) (ht : appendStrip s = .next t) : t.tablesFresh := by
  have hvertex : (appendVertex s).tablesFresh := h.setFbi _
  unfold appendStrip setupAndDraw at ht
  simp only [] at ht
  split at ht
  · split at ht
    · cases ht
      exact (hvertex.setFbi _).setResult _
    · split at ht
      · exact submitTriangle_fresh (hvertex.setFbi _) ht
      · exact submitTriangle_fresh (setupGradients_fresh (hvertex.setFbi _)) ht
  · cases ht
    exact hvertex.setResult _

/-! ## Register writes -/

theorem swapBuffers_fresh {s : State} (h : s.tablesFresh) (v : Word) : (swapBuffers v s).tablesFresh :=
  have hhistory : (recordHistory s).tablesFresh := h.setReg (by decide) (by decide) _
  hhistory.setFbi _

theorem setupArgb_fresh {s : State} (h : s.tablesFresh) (v : Word) : (setupArgb v s).tablesFresh := by
  unfold setupArgb
  refine State.tablesFresh.setReg (State.tablesFresh.setReg (State.tablesFresh.setReg (State.tablesFresh.setReg h ?_ ?_ _)
    ?_ ?_ _) ?_ ?_ _) ?_ ?_ _ <;> decide

/-- The registers that a recompute reads have the effect that marks the unit dirty (R161). -/
theorem effectOf_of_mem_texParams {n : Nat} (hn : n ∈ texParams) : effectOf n = .texture :=
  (by decide : ∀ i ∈ texParams, effectOf i = .texture) n hn

theorem RegEffect.change_fresh {s : State} (h : s.tablesFresh) {e : RegEffect} (he : e ≠ .texture) (sel : Select) (v : Word) :
    (e.change sel v s).tablesFresh := by
  cases e with
  | stored | triangle | setupDraw => exact h
  | vertex | vertexFloat | param | paramFloat | fogTable | setupBegin => exact h.ite (h.setFbi _)
  | tex p k | texFloat p k => exact h.forUnits sel (setTex_withTables _ _ _)
  | w k | wFloat k => exact State.tablesFresh.forUnits (h.ite (h.setFbi _)) sel fun _ => rfl
  | nop => exact h.ite (h.counterReset _ _)
  | fastfill => exact h.ite (fastfill_fresh h)
  | swap => exact h.ite (swapBuffers_fresh h _)
  | setupArgb => exact h.ite (setupArgb_fresh h v)
  | ncc table n => exact h.forUnits sel (nccWrite_withTables _ _ _ _ _)
  | dac => exact h.ite (h.of_fields rfl rfl rfl rfl)
  | layout => exact h.setFbi _
  | layoutReset =>
    have hlaid : (recomputeLayout s).tablesFresh := h.setFbi _
    exact hlaid.ite (hlaid.counterReset _ _)
  | texture => exact absurd rfl he

theorem RegEffect.run_fresh {s t : State} (h : s.tablesFresh) {e : RegEffect} (he : e ≠ .texture) {sel : Select} {v : Word}
    (ht : e.run sel v s = .next t) : t.tablesFresh := by
  unfold RegEffect.run at ht
  split at ht
  · split at ht
    · exact submitTriangle_fresh h ht
    · cases ht
      exact h.setResult _
  · split at ht
    · exact appendStrip_fresh h ht
    · cases ht
      exact h.setResult _
  · cases ht
    exact (RegEffect.change_fresh h he sel v).setResult _

/-- A register write changes the registers of a recompute only together with the dirty mark (R161, R180). -/
theorem regWrite_fresh {n : Nat} (hn : n < 256) {k : BitVec 4} {v : Word} {s t : State} (h : s.tablesFresh)
    (ht : regWrite n (effectOf n) k v s = .next t) : t.tablesFresh := by
  obtain ⟨-, ht⟩ := unlessFatal_next ht
  split at ht
  · cases ht
    exact h.setResult _
  · by_cases he : effectOf n = .texture
    · rw [he] at ht
      cases ht
      exact (h.textureWrite _ hn v).setResult _
    · refine RegEffect.run_fresh ?_ he ht
      unfold writeStored
      split
      · exact h
      · exact h.storeBanks _ hn (mt effectOf_of_mem_texParams he) v

theorem writeMeaning_fresh {n : Nat} (hn : n < 256) {k : BitVec 4} {v : Word} {s t : State} (h : s.tablesFresh)
    (ht : writeMeaning n k v s = .next t) : t.tablesFresh := by
  unfold writeMeaning at ht
  split at ht
  · obtain ⟨-, ht⟩ := unlessFatal_next ht
    cases ht
    exact h.setResult _
  · exact regWrite_fresh hn h ht

/-! ## The other operations -/

theorem regRead_fresh {n : Nat} {k : BitVec 4} {s t : State} (h : s.tablesFresh) (ht : regRead n k s = .next t) :
    t.tablesFresh := by
  obtain ⟨-, r, rfl | rfl | rfl⟩ := regRead_next ht
  · exact h.setResult _
  · exact h.drawn.setResult _
  · exact h.foldStats.setResult _

theorem lfbWrite_fresh {offset v : Word} {m : BitVec 4} {s t : State} (h : s.tablesFresh)
    (ht : lfbWrite offset v m s = .next t) : t.tablesFresh := by
  unfold lfbWrite at ht
  simp only [] at ht
  split at ht
  · cases ht
    exact h.setResult _
  · split at ht
    · cases ht
      exact h.setResult _
    · cases ht
      exact (lfbPixels_fresh h _ _ _ _).foldStats.setResult _

theorem textureUpload_fresh {offset v : Word} {s t : State} (h : s.tablesFresh) (ht : textureUpload offset v s = .next t) :
    t.tablesFresh := by
  unfold textureUpload at ht
  simp only [] at ht
  split at ht
  · cases ht
    exact h.setResult _
  · rename_i hpresent
    have hfresh : (freshUnit (field offset 19 2) s).tablesFresh := h.freshUnit (by have := s.config.ntmu.isLt; omega)
    split at ht
    · cases ht
    · split at ht
      · cases ht
        exact h.setResult _
      · cases ht
        exact (hfresh.setTmu (uploadStore_withTables _ _ _ _ _)).setResult _

/-- After RESET both units are marked dirty, whatever the sizes (R421). -/
theorem execReset_fresh {c : Config} {q : ResetPolicy} {s t : State} (ht : execReset c q s = .next t) : t.tablesFresh := by
  unfold execReset at ht
  split at ht <;> cases ht <;> exact ⟨.inl rfl, .inl rfl⟩

/-! ## A step -/

theorem exec_fresh (i : Instr) {s t : State} (h : s.tablesFresh) (ht : exec i s = .next t) : t.tablesFresh := by
  obtain hbus | ⟨n, -, hread⟩ | ⟨n, row, k, v, -, hrow, rfl⟩ := instr_cases i
  · obtain ⟨o, v, rfl⟩ | ⟨o, rfl⟩ | ⟨o, v, m, rfl⟩ | ⟨o, rfl⟩ | ⟨o, v, rfl⟩ | ⟨v, rfl⟩ | ⟨c, q, rfl⟩ := hbus
    · exact regWrite_fresh (effectiveIndex_lt s o) h ht
    · exact regRead_fresh h ht
    · exact lfbWrite_fresh h (unlessFatal_next ht).2
    · obtain ⟨-, hr⟩ := unlessFatal_next ht
      cases hr
      exact h.setResult _
    · exact textureUpload_fresh h (unlessFatal_next ht).2
    · have hr := (unlessFatal_next (k := fun s => done { s with initEnable := v }) ht).2
      cases hr
      exact h.of_fields rfl rfl rfl rfl
    · exact execReset_fresh ht
  · rw [hread] at ht
    exact regRead_fresh h ht
  · rw [exec_writeRow hrow] at ht
    exact writeMeaning_fresh n.isLt h ht

/-- Settles O22: a step is one decoded operation, and every operation that changes a register of a recompute marks the
unit dirty. -/
theorem lazyTablesNeverGoStale : Obligations.LazyTablesNeverGoStale := by
  intro s t h ht
  unfold step at ht
  split at ht
  · cases ht
    exact h
  · rename_i cycle rest _
    split at ht
    · cases ht
    · rename_i i _
      obtain ⟨u, r, hu, rfl⟩ := hostAnswer_next ht
      exact (exec_fresh i (h.of_fields (t := { s with pending := rest }) rfl rfl rfl rfl) hu).setResult r

end Sys2Proof.Machine
end

section
/-! SUPPORT. A step as one decoded operation, and the host's side of it under the default register map and access
table (O4). -/

namespace Sys2Proof.Machine

open Sys2Proof

theorem step_idle {s : State} (h : s.pending = []) : step s = .next s := by
  unfold step
  rw [h]

theorem step_decoded {s : State} {c : BusCycle} {rest : List BusCycle} (hp : s.pending = c :: rest) {i : Instr}
    (hd : decode (hostCycle s c) = .ok i) : step s = hostAnswer s c (exec i { s with pending := rest }) := by
  unfold step
  simp only [hp, hd]

theorem step_undecodable {s : State} {c : BusCycle} {rest : List BusCycle} (hp : s.pending = c :: rest) {why : DecodeError}
    (hd : decode (hostCycle s c) = .error why) : step s = .refused (.undecodable why) := by
  unfold step
  simp only [hp, hd]

/-! ## The default register map and access table (R9, R31) -/

theorem writable_reserved {c : Config} (ha : c.access = none) {n : Nat} (hn : n < 256) (hr : reservedIndex n = true) :
    writable c n = false := by
  simp only [writable, accessFlags, ha, defaultAccess_reserved _ hn hr]
  rfl

/-- Under the default access table no write is granted at a reserved index. -/
theorem grantCycle_default {s : State} (ha : s.config.access = none) (c : BusCycle) : grantCycle s c = c := by
  cases c with
  | regWr offset v =>
    refine if_neg ?_
    rw [Bool.and_eq_true]
    rintro ⟨hr, hw⟩
    rw [writable_reserved ha (field_lt offset 0 8) hr] at hw
    cases hw
  | _ => rfl

theorem mapCycle_default {s : State} (hm : s.config.regMap = none) (c : BusCycle) : mapCycle s c = c := by
  unfold mapCycle
  rw [hm]

theorem hostCycle_default {s : State} (hm : s.config.regMap = none) (ha : s.config.access = none) (c : BusCycle) :
    hostCycle s c = c := by
  unfold hostCycle
  rw [mapCycle_default hm, grantCycle_default ha]

theorem hostAnswer_default {s : State} (hm : s.config.regMap = none) (c : BusCycle) (o : Answer) : hostAnswer s c o = o := by
  unfold hostAnswer
  rw [hm]

/-- Settles O4: `step` by the head of the queue and by what it decodes to; the default map and table translate nothing. -/
theorem stepRunsTheDecodedOperation : Obligations.StepRunsTheDecodedOperation := by
  refine ⟨fun s c rest i hp hd => step_decoded hp hd, fun s c rest i hp hm ha hd => ?_,
    fun s c rest why hp hd => step_undecodable hp hd, fun s hp => step_idle hp⟩
  rw [step_decoded hp ((congrArg decode (hostCycle_default hm ha c)).trans hd), hostAnswer_default hm]

end Sys2Proof.Machine
end

section
/-! SUPPORT. The word that a framebuffer read returns, by its buffer and its address (R87, R371, R409; O48). -/

namespace Sys2Proof.Machine

open Sys2Proof

/-- Outside the fatal state a read changes the bus result alone. -/
theorem exec_lfbRd {s : State} (hf : s.fatal = none) (offset : Word) :
    exec (.lfbRd offset) s = .next { s with result := some (lfbReadWord offset s) } :=
  unlessFatal_none (k := lfbRead offset) hf

theorem lfbReadBase_reserved {k : Constants} {mode : Word} (h : LfbMode.readBuffer k mode = 3) (f : Fbi) :
    lfbReadBase k mode f = none := by
  simp only [lfbReadBase, h]

theorem lfbReadBase_aux {k : Constants} {mode : Word} (h : LfbMode.readBuffer k mode = 2) (f : Fbi) :
    lfbReadBase k mode f = f.auxoffs := by
  simp only [lfbReadBase, h]

theorem lfbReadWord_none {s : State} (h : lfbReadBase s.config.constants (s.reg 0 Reg.lfbMode) s.fbi = none)
    (offset : Word) : lfbReadWord offset s = 0xFFFFFFFF := by
  unfold lfbReadWord
  simp only [h]

theorem lfbReadWord_some {s : State} {b : Word}
    (h : lfbReadBase s.config.constants (s.reg 0 Reg.lfbMode) s.fbi = some b) (offset : Word) :
    lfbReadWord offset s = if s.fbi.mask.toNat < lfbReadAddress s b offset + 3 then 0xFFFFFFFF
      else lfbReadSwap (s.reg 0 Reg.lfbMode) (joinHalves s.config.constants.parts
        (fbWord (lfbReadAddress s b offset) s.fbi) (fbWord (lfbReadAddress s b offset + 2) s.fbi)) := by
  unfold lfbReadWord
  simp only [h]

/-- The first pixel of a read is a multiple of the pair's span into its row (R104, R371). -/
theorem lfbReadAddress_eq (s : State) (b offset : Word) : lfbReadAddress s b offset =
    b.toNat + 2 * (lfbRow s (lfbPairPosition s.config.constants offset).y * s.fbi.rowpixels.toNat +
      2 ^ s.config.constants.offsets.lfbPairSpan * field offset 0 s.config.constants.offsets.lfbPairX) := by
  rw [Nat.mul_comm (2 ^ _)]
  rfl

/-- Settles O48: the read is its word, which is all ones or the two words at its address. -/
theorem lfbReadReturnsTwoPixelsOrAllOnes : Obligations.LfbReadReturnsTwoPixelsOrAllOnes := by
  refine ⟨fun offset s hf => ⟨⟨_, exec_lfbRd hf offset⟩, fun hnone => ?_, fun hbuffer => lfbReadBase_reserved hbuffer _,
    fun hbuffer => lfbReadBase_aux hbuffer _, fun b hb => ?_⟩, rfl, rfl, rfl, rfl, rfl, rfl⟩
  · rw [exec_lfbRd hf, lfbReadWord_none hnone]
  · rw [exec_lfbRd hf, lfbReadWord_some hb, lfbReadAddress_eq]
    rfl

end Sys2Proof.Machine
end

section
/-! SUPPORT. A texture upload as four byte writes at masked addresses, and what it leaves (R84, R192, R200, R401;
O49). -/

namespace Sys2Proof.Machine

open Sys2Proof

/-! ## Masked addresses (R200) -/

theorem four_le_of_supportedSize {n : Nat} (h : supportedSize n = true) : 4 ≤ n := by
  simp only [supportedSize, Bool.or_eq_true, decide_eq_true_eq] at h
  omega

/-- The mask of a supported size takes an address modulo the size. -/
theorem and_mask_eq_mod {m : Nat} (h : supportedSize (m + 1) = true) (a : Nat) : a &&& m = a % (m + 1) := by
  simp only [supportedSize, Bool.or_eq_true, decide_eq_true_eq] at h
  obtain (h | h) | h := h
  · obtain rfl : m = 2 ^ 20 - 1 := by omega
    exact Nat.and_two_pow_sub_one_eq_mod a 20
  · obtain rfl : m = 2 ^ 21 - 1 := by omega
    exact Nat.and_two_pow_sub_one_eq_mod a 21
  · obtain rfl : m = 2 ^ 22 - 1 := by omega
    exact Nat.and_two_pow_sub_one_eq_mod a 22

/-- An address may be masked before the offset is added. -/
theorem and_mask_add {m : Nat} (h : supportedSize (m + 1) = true) (a k : Nat) : ((a &&& m) + k) &&& m = (a + k) &&& m := by
  simp only [and_mask_eq_mod h, Nat.mod_add_mod]

/-- Two of the first bytes from an address never fall on one cell. -/
theorem and_mask_add_ne {m : Nat} (h : supportedSize (m + 1) = true) (a : Nat) {j k : Nat} (hjk : j < k) (hk : k ≤ m) :
    (a + j) &&& m ≠ (a + k) &&& m := by
  simp only [and_mask_eq_mod h]
  intro e
  have hmod : j ≡ k [MOD m + 1] := Nat.ModEq.add_left_cancel' a e
  have := hmod.eq_of_lt_of_lt (by omega) (by omega)
  omega

/-! ## A run of bytes -/

/-- The bytes `f 0`, `f 1`, …, `n` of them, written from address `a` up. -/
def texBytes (a : Nat) (f : Nat → Byte) : Nat → Tmu → Tmu
  | 0, t => t
  | n + 1, t => texWrite8 (a + n) (f n) (texBytes a f n t)

@[simp] theorem texBytes_mask (a : Nat) (f : Nat → Byte) (n : Nat) (t : Tmu) : (texBytes a f n t).mask = t.mask := by
  induction n with
  | zero => rfl
  | succ n ih => exact ih

theorem texBytes_wf (a : Nat) (f : Nat → Byte) (n : Nat) {t : Tmu} (h : t.ram.wf = true) :
    (texBytes a f n t).ram.wf = true := by
  induction n with
  | zero => exact h
  | succ n ih => exact Memory.wf_write ih _ _

theorem texBytes_read_other {a : Nat} {f : Nat → Byte} {n : Nat} {t : Tmu} {b : Nat}
    (h : ∀ k < n, b ≠ (a + k) &&& t.mask.toNat) : (texBytes a f n t).ram.read b = t.ram.read b := by
  induction n with
  | zero => rfl
  | succ n ih =>
    refine (texWrite8_read_other ?_).trans (ih fun k hk => h k (by omega))
    rw [texBytes_mask]
    exact h n (by omega)

/-- A run no longer than the RAM leaves each of its bytes at its masked address. -/
theorem texBytes_read {a : Nat} {f : Nat → Byte} {n : Nat} {t : Tmu} (hs : supportedSize (t.mask.toNat + 1) = true)
    (hw : t.ram.wf = true) (hn : n ≤ t.mask.toNat + 1) {k : Nat} (hk : k < n) :
    (texBytes a f n t).ram.read ((a + k) &&& t.mask.toNat) = f k := by
  induction n with
  | zero => omega
  | succ n ih =>
    obtain rfl | hlt : k = n ∨ k < n := by omega
    · rw [texBytes, texWrite8, texBytes_mask]
      exact Memory.read_write_same (texBytes_wf a f k hw) _ _
    · refine (texWrite8_read_other ?_).trans (ih (by omega) hlt)
      rw [texBytes_mask]
      exact and_mask_add_ne hs a hlt (by omega)

/-! ## The upload of a unit (R192) -/

/-- Byte `j` of an upload's word: byte `j` of four texels, or of two 16-bit ones. -/
def uploadByte (k : Constants) (format : Nat) (d : Word) (j : Nat) : Byte :=
  d.extractLsb' (if format < 8 then k.parts.texelByte * j else k.parts.texelHalf * (j / 2) + 8 * (j % 2)) 8

theorem extractLsb'_byte_of_half (d : Word) (lo : Nat) {i : Nat} (hi : i + 8 ≤ 16) :
    (d.extractLsb' lo 16).extractLsb' i 8 = d.extractLsb' (lo + i) 8 := by
  ext j hj
  simp only [BitVec.getElem_extractLsb', BitVec.getLsbD_extractLsb', Nat.add_assoc, Bool.and_eq_right_iff_imp]
  exact fun _ => decide_eq_true (by omega)

/-- An upload is four byte writes from its address up, in either width of texel. -/
theorem uploadStore_eq_texBytes {t : Tmu} (hs : supportedSize (t.mask.toNat + 1) = true) (k : Constants) (format : Nat)
    (offset d : Word) :
    uploadStore k t format offset d = texBytes (uploadAddress k t format offset) (uploadByte k format d) 4 t := by
  unfold uploadStore
  split
  · rename_i h8
    simp only [texBytes, uploadByte, if_pos h8, texWrite8, and_mask_add hs, Nat.and_assoc, Nat.and_self, Nat.add_zero]
  · rename_i h16
    simp only [texBytes, uploadByte, if_neg h16, texWrite16, texWrite8, and_mask_add hs, Nat.and_assoc, Nat.and_self,
      Nat.add_zero, Nat.add_assoc, extractLsb'_byte_of_half _ _ (show 0 + 8 ≤ 16 by decide),
      extractLsb'_byte_of_half _ _ (show 8 + 8 ≤ 16 by decide)]
    rfl

theorem uploadStore_eq (k : Constants) (t : Tmu) (format : Nat) (offset d : Word) :
    uploadStore k t format offset d = { t with ram := (uploadStore k t format offset d).ram } := by
  unfold uploadStore
  simp only []
  split <;> rfl

/-- The address of an upload: its level's offset, its row of level width, its column of 4 or 2 texels (R192). -/
theorem uploadAddress_eq (k : Constants) (t : Tmu) (format : Nat) (offset : Word) :
    uploadAddress k t format offset =
      (t.lodoffset.read (field offset 15 4)).toNat +
        (if format < 8 then field offset 7 8 * (t.wmask.toNat / 2 ^ field offset 15 4 + 1) +
            2 ^ k.offsets.texSpan8 * field offset 0 k.offsets.texColumn8
          else 2 * (field offset 7 8 * (t.wmask.toNat / 2 ^ field offset 15 4 + 1) +
            2 ^ k.offsets.texSpan16 * field offset 0 k.offsets.texColumn16)) := by
  simp only [uploadAddress, Nat.shiftRight_eq_div_pow, Nat.mul_comm (2 ^ _), Nat.add_assoc]
  split <;> rfl

/-! ## The unit made fresh before it (R180) -/

theorem freshUnit_tmu (u : Nat) (s : State) : (freshUnit u s).tmu u =
    if (s.tmu u).regdirty = true then
      recomputeFrom s.config (s.texReg u Reg.textureMode) (s.texReg u Reg.tLOD) (s.texReg u Reg.tDetail)
        (s.texReg u Reg.texBaseAddr) (s.tmu u)
    else s.tmu u := by
  unfold freshUnit recomputeUnit
  split
  · exact State.setTmu_tmu _ _ _
  · rfl

theorem freshUnit_tmu_ok {u : Nat} {s : State} (h : (s.tmu u).ok = true) : ((freshUnit u s).tmu u).ok = true := by
  rw [freshUnit_tmu]
  split
  · exact recomputeFrom_ok h _ _ _ _ _
  · exact h

theorem freshUnit_tmu_ram (u : Nat) (s : State) : ((freshUnit u s).tmu u).ram = (s.tmu u).ram := by
  rw [freshUnit_tmu]
  split <;> rfl

/-! ## The operation -/

/-- The state after an upload to unit `u`. -/
def uploaded (offset v : Word) (u : Nat) (s : State) : State :=
  { (freshUnit u s).setTmu u (uploadStore s.config.constants ((freshUnit u s).tmu u)
      (TexMode.format s.config.constants (s.texReg u Reg.textureMode)) offset (uploadWord (s.texReg u Reg.tLOD) v)) with
    result := some 0 }

/-- TEX_WR to an absent unit, to a present one above LOD 8, and to a present one at most there (R192, R401). -/
theorem exec_texWr {s : State} (hf : s.fatal = none) (offset v : Word)
    (hd : field offset 19 2 < s.config.ntmu.val →
      ¬(s.isV2 = true ∧ TLod.directWrite (s.texReg (field offset 19 2) Reg.tLOD) = true)) :
    exec (.texWr offset v) s = .next
      (if s.config.ntmu.val ≤ field offset 19 2 ∨ 8 < field offset 15 4 then { s with result := some 0 }
        else uploaded offset v (field offset 19 2) s) := by
  have hexec : exec (.texWr offset v) s = textureUpload offset v s := unlessFatal_none (k := textureUpload offset v) hf
  rw [hexec]
  unfold textureUpload
  simp only [Bool.and_eq_true]
  by_cases hu : s.config.ntmu.val ≤ field offset 19 2
  · rw [if_pos hu, if_pos (.inl hu)]
    rfl
  · rw [if_neg hu, if_neg (hd (by omega))]
    by_cases hl : 8 < field offset 15 4
    · rw [if_pos hl, if_pos (.inr hl)]
      rfl
    · rw [if_neg hl, if_neg (by omega)]
      rfl

/-- Settles O49: an upload that is not dropped is a run of four bytes in the fresh unit. -/
theorem textureUploadStoresFourBytes : Obligations.TextureUploadStoresFourBytes := by
  refine ⟨fun offset v s hf => ⟨fun habsent => ?_, fun _ hdirect hlod => ?_, fun hpresent hok hdirect hlod => ?_⟩,
    rfl, rfl, rfl, rfl, rfl, rfl⟩
  · rw [exec_texWr hf offset v (by omega), if_pos (.inl habsent)]
  · rw [exec_texWr hf offset v fun _ => hdirect, if_pos (.inr hlod)]
  · obtain ⟨hsize, hram, -⟩ := (Tmu.ok_iff _).mp (freshUnit_tmu_ok hok)
    have hunit : (uploaded offset v (field offset 19 2) s).tmu (field offset 19 2) = _ := State.setTmu_tmu _ _ _
    refine ⟨uploaded offset v (field offset 19 2) s, ?_, ?_, fun k hk => ?_, fun b hb => ?_⟩
    · rw [exec_texWr hf offset v fun _ => hdirect, if_neg (by omega)]
    · rw [hunit, ← uploadStore_eq]
      rfl
    · rw [hunit, uploadStore_eq_texBytes hsize, ← uploadAddress_eq]
      exact texBytes_read hsize (Memory.wf_of_inRange hram) (four_le_of_supportedSize hsize) hk
    · rw [hunit, uploadStore_eq_texBytes hsize, texBytes_read_other, freshUnit_tmu_ram]
      rw [uploadAddress_eq]
      exact hb

end Sys2Proof.Machine
end

section
/-! SUPPORT. The decoder and the encoder of the opcode table: each is the other's inverse on the well-formed
instructions, and nothing else is decoded (R100, R101, R103, R108, R109; O1, O2, O3). -/

namespace Sys2Proof.Machine

open Sys2Proof

/-! ## The decoder by the kind of its operation (R100, R103, R108) -/

theorem decodeRegWr_aliasable {offset : Word} (h : aliasable offset = true) (v : Word) :
    decodeRegWr offset v = .regWr offset v := if_pos h

theorem decodeRegWr_row {offset : Word} (h : aliasable offset = false) {row : BitVec 4 → Word → Instr}
    (hrow : writeRows[field offset 0 8]? = some row) (v : Word) : decodeRegWr offset v = row (offsetChips offset) v := by
  unfold decodeRegWr
  rw [h, if_neg Bool.false_ne_true, hrow]

theorem decodeRegRd_aliasable {offset : Word} (h : aliasable offset = true) : decodeRegRd offset = .regRd offset :=
  if_pos h

/-- A read that no row lists as computed keeps its offset (R139). -/
theorem decodeRegRd_uncomputed {offset : Word} (h : field offset 0 8 ∉ computedReads) :
    decodeRegRd offset = .regRd offset := by
  unfold decodeRegRd
  split
  · rfl
  · split
    case h_12 => rfl
    all_goals
      rename_i hn
      exact absurd (hn ▸ h) (by decide)

theorem decode_grantedWr_reserved {offset : Word} (h : reservedIndex (field offset 0 8) = true) (v : Word) :
    decode (.grantedWr offset v) = .ok (.regWr offset v) := by
  simp only [decode, h, if_true]

theorem decode_grantedWr_unreserved {offset : Word} (h : reservedIndex (field offset 0 8) = false) (v : Word) :
    decode (.grantedWr offset v) = .ok (decodeRegWr offset v) := by
  simp only [decode, h, Bool.false_eq_true, if_false]

/-- A RESET is decoded exactly when its plain data are in range, and then to itself (R100). -/
theorem decode_reset_eq_ok_iff {c : Config} {q : ResetPolicy} {i : Instr} :
    decode (.reset c q) = .ok i ↔ i = .reset c q ∧ (Instr.reset c q).wf = true := by
  simp only [decode, Instr.wf]
  cases c.wf <;> cases q.wf c <;> simp [eq_comm]

/-! ## Decoding an encoding (R101, R108) -/

theorem decode_encode_regWr {offset v : Word} (h : (Instr.regWr offset v).wf = true) :
    decode (encode (.regWr offset v)) = .ok (.regWr offset v) := by
  simp only [encode]
  cases ha : aliasable offset with
  | true => exact congrArg Except.ok (decodeRegWr_aliasable ha v)
  | false =>
    have hr : reservedIndex (field offset 0 8) = true := by simpa only [Instr.wf, ha, Bool.false_or] using h
    exact decode_grantedWr_reserved hr v

theorem decode_encode_regRd {offset : Word} (h : (Instr.regRd offset).wf = true) :
    decode (encode (.regRd offset)) = .ok (.regRd offset) := by
  refine congrArg Except.ok ?_
  cases ha : aliasable offset with
  | true => exact decodeRegRd_aliasable ha
  | false => exact decodeRegRd_uncomputed (by simpa [Instr.wf, ha] using h)

/-- The row at an index and a chip-select decodes from the offset that holds just these two. -/
theorem decode_encode_write {i : Instr} (h : Instr.IsWrite i) : decode (encode i) = .ok i := by
  obtain ⟨n, row, k, v, henc, hrow, rfl⟩ := h
  rw [← field_regOffset n k] at hrow
  rw [henc, decode, decodeRegWr_row (aliasable_regOffset n k) hrow, offsetChips_regOffset]

/-- Settles O1: a write is the row of its index; the generic operations are those that no row takes. -/
theorem decodeInvertsEncode : Obligations.DecodeInvertsEncode := by
  intro i h
  cases i
  case regWr => exact decode_encode_regWr h
  case regRd => exact decode_encode_regRd h
  case reset => exact decode_reset_eq_ok_iff.mpr ⟨rfl, h⟩
  case lfbWr | lfbRd | texWr | pciIniten => rfl
  case statusRead | fbiInit2Read | fbiPixelsInRead | fbiChromaFailRead | fbiZfuncFailRead | fbiAfuncFailRead |
      fbiPixelsOutRead | vRetraceRead | hvRetraceRead | fbiSwapHistoryRead | fbiTrianglesOutRead => rfl
  all_goals exact decode_encode_write ⟨_, _, _, _, rfl, rfl, rfl⟩

/-! ## What decodes is well-formed (R109) -/

/-- The check of a block of rows evaluates to true before their operands are known. -/
theorem rows_wf_of_map_eq {rows : List (BitVec 4 → Word → Instr)}
    (h : rows.map (fun row k v => (row k v).wf) = List.replicate rows.length fun _ _ => true) :
    ∀ row ∈ rows, ∀ (k : BitVec 4) (v : Word), (row k v).wf = true := by
  intro row hrow k v
  have hmem := List.mem_map_of_mem (f := fun row k v => Instr.wf (row k v)) hrow
  rw [h] at hmem
  exact congrFun (congrFun (List.eq_of_mem_replicate hmem) k) v

theorem writeRows_wf : ∀ row ∈ writeRows, ∀ (k : BitVec 4) (v : Word), (row k v).wf = true := by
  simp only [writeRows, List.forall_mem_append]
  exact ⟨⟨⟨⟨⟨⟨⟨rows_wf_of_map_eq rfl, rows_wf_of_map_eq rfl⟩, rows_wf_of_map_eq rfl⟩, rows_wf_of_map_eq rfl⟩,
    rows_wf_of_map_eq rfl⟩, rows_wf_of_map_eq rfl⟩, rows_wf_of_map_eq rfl⟩, rows_wf_of_map_eq rfl⟩

theorem decodeRegWr_wf (offset v : Word) : (decodeRegWr offset v).wf = true := by
  cases ha : aliasable offset with
  | true => simp only [decodeRegWr_aliasable ha, Instr.wf, ha, Bool.true_or]
  | false =>
    obtain ⟨row, hrow⟩ := writeRows_getElem? (field_lt offset 0 8)
    rw [decodeRegWr_row ha hrow]
    exact writeRows_wf row (List.mem_of_getElem? hrow) _ _

theorem decodeRegRd_wf (offset : Word) : (decodeRegRd offset).wf = true := by
  cases ha : aliasable offset with
  | true => simp only [decodeRegRd_aliasable ha, Instr.wf, ha, Bool.true_or]
  | false =>
    unfold decodeRegRd
    rw [ha, if_neg Bool.false_ne_true]
    split
    case h_12 =>
      have hc : field offset 0 8 ∉ computedReads := by simp_all [computedReads]
      simpa [Instr.wf, ha] using hc
    all_goals rfl

theorem decode_wf {c : BusCycle} {i : Instr} (h : decode c = .ok i) : i.wf = true := by
  cases c with
  | grantedWr offset v =>
    cases hr : reservedIndex (field offset 0 8) with
    | true =>
      cases (decode_grantedWr_reserved hr v).symm.trans h
      simp only [Instr.wf, hr, Bool.or_true]
    | false =>
      cases (decode_grantedWr_unreserved hr v).symm.trans h
      exact decodeRegWr_wf offset v
  | reset config policy =>
    obtain ⟨rfl, hwf⟩ := decode_reset_eq_ok_iff.mp h
    exact hwf
  | regWr offset v =>
    cases h
    exact decodeRegWr_wf offset v
  | regRd offset =>
    cases h
    exact decodeRegRd_wf offset
  | lfbWr | lfbRd | texWr | pciIniten =>
    cases h
    rfl

/-- Settles O2: only RESET has an operand that the decoder checks. -/
theorem decodeIsTotalAndWellFormed : Obligations.DecodeIsTotalAndWellFormed := by
  refine ⟨fun c hc => ?_, fun c i h => decode_wf h⟩
  cases c with
  | reset config policy => exact absurd rfl (hc config policy)
  | regWr | grantedWr | regRd | lfbWr | lfbRd | texWr | pciIniten => exact ⟨_, rfl⟩

/-! ## The table's words (R101) -/

/-- A word of the table is the row of its offset's index, with the chip-select of the offset and the data word. -/
theorem decodeTableWord_row {nbits w : Nat} (hn : nbits ≤ 64) (hw : w < 2 ^ 64)
    (ha : aliasable (BitVec.ofNat 32 w) = false) {row : BitVec 4 → Word → Instr}
    (hrow : writeRows[field (BitVec.ofNat 32 w) 0 8]? = some row) :
    decodeTableWord nbits w = some (row (offsetChips (BitVec.ofNat 32 w)) (BitVec.ofNat 32 (w >>> 32))) := by
  simp only [decodeTableWord, decodeTable, if_pos (And.intro hn hw), tableCycle, decode, decodeRegWr_row ha hrow]

/-- Settles O3: each word names its row, its chip-select and its data. -/
theorem wordsOfTheTableDecode : Obligations.WordsOfTheTableDecode := by
  refine ⟨?_, ?_, ?_, ?_, ?_, ?_, ?_, ?_, ?_⟩
  · exact decodeTableWord_row (row := .startR) (by decide) (by decide) (by decide) rfl
  · exact decodeTableWord_row (row := .fbzMode) (by decide) (by decide) (by decide) rfl
  · exact decodeTableWord_row (row := .triangleCMD) (by decide) (by decide) (by decide) rfl
  · exact decodeTableWord_row (row := .fogTable0) (by decide) (by decide) (by decide) rfl
  · exact decodeTableWord_row (row := .fbiInit2) (by decide) (by decide) (by decide) rfl
  · exact decodeTableWord_row (row := .sDrawTriCMD) (by decide) (by decide) (by decide) rfl
  · exact decodeTableWord_row (row := .textureMode) (by decide) (by decide) (by decide) rfl
  · exact decodeTableWord_row (row := .ncc1Entry11) (by decide) (by decide) (by decide) rfl
  · exact decodeTableWord_row (row := fun _ _ => .reservedFF) (by decide) (by decide) (by decide) rfl

end Sys2Proof.Machine
end

section
/-! SUPPORT. The slot that a register read returns, by the banks of its register, and PCI_INITEN (R102, R107, R139,
R409; O45, O54). -/

namespace Sys2Proof.Machine

open Sys2Proof

theorem not_mem_computedReads_of_textureOnly {n : Nat} (h : textureOnly n = true) : n ∉ computedReads := by
  have hcomputed : ∀ m ∈ computedReads, textureOnly m = false := by decide
  intro hn
  rw [hcomputed n hn] at h
  cases h

/-- The read of a texture-only register is the slot of a texture bank (R102, R139). -/
theorem readValue_textureOnly {n : Nat} (h : textureOnly n = true) (k : BitVec 4) (s : State) :
    readValue n k s = textureRead (selectOf s.config k) n s := by
  have hc := not_mem_computedReads_of_textureOnly h
  simp only [computedReads, List.mem_cons, List.not_mem_nil, or_false, not_or] at hc
  have hstat : ¬(Reg.fbiPixelsIn ≤ n ∧ n ≤ Reg.fbiPixelsOut) := by
    simp only [Reg.fbiPixelsIn, Reg.fbiPixelsOut]; omega
  have hdac : readsDac s n = false := by simp [readsDac, Reg.fbiInit2, hc]
  have htiming : ¬(n = Reg.vRetrace ∨ n = Reg.hvRetrace) := by
    simp only [Reg.vRetrace, Reg.hvRetrace]; omega
  unfold readValue
  rw [if_neg (by simp only [Reg.status]; omega), if_neg hstat, if_neg (by simp only [Reg.fbiTrianglesOut]; omega), hdac,
    if_neg Bool.false_ne_true, if_neg htiming, if_pos h]

/-- Unit 0 answers where it is selected, whether unit 1 is or not. -/
theorem textureRead_tmu0 {sel : Select} (h : sel.tmu0 = true) (n : Nat) (s : State) :
    textureRead sel n s = answer (s.reg 1 n) s := if_pos h

theorem textureRead_tmu1 {sel : Select} (h0 : sel.tmu0 = false) (h1 : sel.tmu1 = true) (n : Nat) (s : State) :
    textureRead sel n s = answer (s.reg 2 n) s := by
  unfold textureRead
  rw [h0, if_neg Bool.false_ne_true, if_pos h1]

/-- The read of a register that is neither computed nor texture-only is the slot of bank 0 (R139). -/
theorem readValue_uncomputed {n : Nat} (hc : n ∉ computedReads) (ht : textureOnly n = false) (k : BitVec 4) (s : State) :
    readValue n k s = answer (s.reg 0 n) s := by
  have hdac : readsDac s n = false := by
    have h86 : n ≠ Reg.fbiInit2 := by rintro rfl; exact hc (by decide)
    simp only [readsDac, decide_eq_false h86, Bool.false_and]
  have hslot : [0x00, 0x53, 0x54, 0x55, 0x56, 0x57, 0x81, 0x90, 0x97] ⊆ computedReads := by decide
  exact readValue_slot (fun hn => hc (hslot hn)) hdac ht k

/-- Settles O45: a readable register is read by its value, a texture-only one from the lowest selected unit. -/
theorem registerReadReturnsTheBankOrAllOnes : Obligations.RegisterReadReturnsTheBankOrAllOnes := by
  intro offset s hf i k
  have hread : exec (.regRd offset) s = regRead i k s := exec_regRd offset s
  rw [hread]
  refine ⟨fun hr => regRead_unreadable hf hr k, fun hr hc ht => ?_, fun hr ht h0 => ?_, fun hr ht h0 h1 => ?_⟩
  · rw [regRead_readable hf hr, readValue_uncomputed hc ht]
    rfl
  · rw [regRead_readable hf hr, readValue_textureOnly ht, textureRead_tmu0 ((selectOf_tmu0 _ _).trans h0)]
    rfl
  · rw [regRead_readable hf hr, readValue_textureOnly ht,
      textureRead_tmu1 ((selectOf_tmu0 _ _).trans h0) ((selectOf_tmu1 _ _).trans h1)]
    rfl

/-- Settles O54: the operation is one record update. -/
theorem pciInitEnableSetsTheWord : Obligations.PciInitEnableSetsTheWord := by
  intro v s hf
  have hexec : exec (.pciIniten v) s = unlessFatal s fun s => done { s with initEnable := v } := rfl
  rw [hexec, unlessFatal_none hf]
  rfl

end Sys2Proof.Machine
end

section
/-! SUPPORT. An accepted register write as its store and its side effect, and what the effects on the FBI and on the
texture units leave (O6, O11–O15, O17, O18, O21). -/

namespace Sys2Proof.Machine

open Sys2Proof

/-! ## The store of an accepted write (R131) -/

/-- The state between the store of a write and its side effect. -/
def stored (n : Nat) (k : BitVec 4) (v : Word) (s : State) : State := storeBanks (selectOf s.config k) n v s

theorem stored_eq (n : Nat) (k : BitVec 4) (v : Word) (s : State) :
    stored n k v s = { s with regs := (stored n k v s).regs } := storeBanks_eq _ _ _ _

theorem stored_wf {s : State} (hw : s.regs.wf = true) (n : Nat) (k : BitVec 4) (v : Word) :
    (stored n k v s).regs.wf = true := storeBanks_wf hw _ _ _

theorem stored_reg {s : State} (hw : s.regs.wf = true) {n : Nat} (hn : n < 256) (k : BitVec 4) (v : Word) {bank i : Nat}
    (hb : bank < 4) (hi : i < 256) :
    (stored n k v s).reg bank i = if i = n ∧ selected s.config k bank = true then v else s.reg bank i :=
  storeBanks_slots hw k hn v hb hi

/-- `u` has the slots of `s` at every index but `n`. -/
def SlotsBut (n : Nat) (s u : State) : Prop :=
  ∀ bank i, bank < 4 → i < 256 → i ≠ n → u.reg bank i = s.reg bank i

theorem stored_slotsBut {s : State} (hw : s.regs.wf = true) {n : Nat} (hn : n < 256) (k : BitVec 4) (v : Word) :
    SlotsBut n s (stored n k v s) := fun _ _ hb hi hne =>
  (stored_reg hw hn k v hb hi).trans (if_neg fun h => hne h.1)

/-- A state with the register file of the store has its slots. -/
theorem stores_of_regs {s t : State} (hw : s.regs.wf = true) {n : Nat} (hn : n < 256) {k : BitVec 4} {v : Word}
    (hr : t.result = none) (ht : t.regs = (stored n k v s).regs) : Stores n k v s t where
  result := hr
  regs := fun bank i hb hi => by
    have hreg : t.reg bank i = (stored n k v s).reg bank i := by simp only [State.reg, ht]
    rw [hreg, stored_reg hw hn k v hb hi]

/-- Where the effect is no palette write, an accepted write is the effect on the stored state (R130, R158). -/
theorem regWrite_run {s : State} {n : Nat} (h : Accepts s n) {e : RegEffect} {v : Word} (hr : e.redirects v = false)
    (k : BitVec 4) : regWrite n e k v s = e.run (selectOf s.config k) v (stored n k v s) := by
  rw [regWrite_accepted h, writeStored, hr, if_neg Bool.false_ne_true]
  rfl

/-- An effect that sets the FBI, the units and the DAC and does not read its own slot: the write stores its word, and
the rest is what the effect sets. -/
theorem regWrite_sets {s : State} {n : Nat} (hn : n < 256) (h : Accepts s n) {e : RegEffect} {k : BitVec 4} {v : Word}
    (hr : e.redirects v = false) {f : Fbi} {t0 t1 : Tmu} {d : Dac}
    (he : ∀ r, SlotsBut n s { s with regs := r } → e.run (selectOf s.config k) v { s with regs := r } =
      done { s with regs := r, fbi := f, tmu0 := t0, tmu1 := t1, dac := d }) :
    ∃ t, regWrite n e k v s = .next t ∧ Stores n k v s t ∧
      t = { s with regs := t.regs, result := none, fbi := f, tmu0 := t0, tmu1 := t1, dac := d } := by
  refine ⟨{ s with regs := (stored n k v s).regs, result := none, fbi := f, tmu0 := t0, tmu1 := t1, dac := d }, ?_,
    stores_of_regs h.canonical hn rfl rfl, rfl⟩
  rw [regWrite_run h hr, stored_eq, he _ (stored_eq n k v s ▸ stored_slotsBut h.canonical hn k v)]
  rfl

/-! ## Effects on the FBI and on the units -/

theorem onFbi_eq (sel : Select) (change : Fbi → Fbi) (s : State) :
    onFbi sel change s = { s with fbi := if sel.fbi = true then change s.fbi else s.fbi } := by
  unfold onFbi
  cases sel.fbi <;> rfl

/-- An effect on the selected FBI alone. -/
theorem regWrite_onFbi {s : State} {n : Nat} (hn : n < 256) (h : Accepts s n) {e : RegEffect} {k : BitVec 4} {v : Word}
    (hr : e.redirects v = false) {change : Fbi → Fbi}
    (he : ∀ r, e.run (selectOf s.config k) v { s with regs := r } =
      done (onFbi (selectOf s.config k) change { s with regs := r })) :
    ∃ t, regWrite n e k v s = .next t ∧ Stores n k v s t ∧
      t = { s with
        regs := t.regs, result := none, fbi := if selected s.config k 0 = true then change s.fbi else s.fbi } := by
  refine regWrite_sets hn h hr fun r _ => ?_
  rw [he, onFbi_eq, selectOf_fbi]

/-- An effect on the selected units alone. -/
theorem regWrite_forUnits {s : State} {n : Nat} (hn : n < 256) (h : Accepts s n) {e : RegEffect} {k : BitVec 4}
    {v : Word} (hr : e.redirects v = false) {change : Tmu → Tmu}
    (he : ∀ r, e.run (selectOf s.config k) v { s with regs := r } =
      done (forUnits (selectOf s.config k) change { s with regs := r })) :
    ∃ t, regWrite n e k v s = .next t ∧ Stores n k v s t ∧
      t = { s with
        regs := t.regs, result := none,
        tmu0 := if selected s.config k 1 = true then change s.tmu0 else s.tmu0,
        tmu1 := if selected s.config k 2 = true then change s.tmu1 else s.tmu1 } := by
  refine regWrite_sets hn h hr fun r _ => ?_
  rw [he, forUnits_eq, selectOf_tmu0, selectOf_tmu1]

theorem setW_eq (sel : Select) (p : Part) (w : DWord) (s : State) : setW sel p w s =
    { s with
      fbi := if sel.fbi = true then { s.fbi with w := s.fbi.w.set p w } else s.fbi,
      tmu0 := if sel.tmu0 = true then { s.tmu0 with w := s.tmu0.w.set p w } else s.tmu0,
      tmu1 := if sel.tmu1 = true then { s.tmu1 with w := s.tmu1.w.set p w } else s.tmu1 } := by
  unfold setW
  rw [onFbi_eq, forUnits_eq]

/-- The W iterator of the selected FBI and of every selected unit (R146). -/
theorem regWrite_setW {s : State} {n : Nat} (hn : n < 256) (h : Accepts s n) {e : RegEffect} {k : BitVec 4} {v : Word}
    (hr : e.redirects v = false) {p : Part} {w : DWord}
    (he : ∀ r, e.run (selectOf s.config k) v { s with regs := r } =
      done (setW (selectOf s.config k) p w { s with regs := r })) :
    ∃ t, regWrite n e k v s = .next t ∧ Stores n k v s t ∧
      t = { s with
        regs := t.regs, result := none,
        fbi := if selected s.config k 0 = true then { s.fbi with w := s.fbi.w.set p w } else s.fbi,
        tmu0 := if selected s.config k 1 = true then { s.tmu0 with w := s.tmu0.w.set p w } else s.tmu0,
        tmu1 := if selected s.config k 2 = true then { s.tmu1 with w := s.tmu1.w.set p w } else s.tmu1 } := by
  refine regWrite_sets hn h hr fun r _ => ?_
  rw [he, setW_eq, selectOf_fbi, selectOf_tmu0, selectOf_tmu1]

/-! ## Plain registers (R131, R147, R154, R161, R163) -/

/-- Settles O6: the row of every plain register is the write path with no side effect. -/
theorem plainRegistersAreStored : Obligations.PlainRegistersAreStored := by
  intro p hp k v s h
  have hrow : writeRows[p.1]? = some p.2 ∧ p.1 < 256 ∧ reservedIndex p.1 = false ∧ effectOf p.1 = .stored := by
    fin_cases hp <;> exact ⟨rfl, by decide, by decide, by decide⟩
  obtain ⟨hrow, hn, hres, heff⟩ := hrow
  rw [exec_writeRow hrow, writeMeaning, hres, if_neg Bool.false_ne_true, heff]
  exact regWrite_stored hn h k v

/-! ## Vertices (R142) -/

/-- Settles O11: each row is the write path with its own corner and axis. -/
theorem vertexWritesSetTheCoordinate : Obligations.VertexWritesSetTheCoordinate := by
  intro p hp k v s h
  have hrow : ∃ corner axis, p.1 < 256 ∧ exec (p.2.1 k v) s = regWrite p.1 (.vertex corner axis) k v s ∧
      ∀ f w, p.2.2 f w = setVertex corner axis w f := by
    fin_cases hp <;> exact ⟨_, _, by decide, rfl, fun _ _ => rfl⟩
  obtain ⟨corner, axis, hn, hexec, hset⟩ := hrow
  rw [hexec, hset]
  exact regWrite_onFbi hn h rfl fun _ => rfl

/-! ## Colour and depth iterators (R143, R144) -/

/-- Sign extension by arithmetic is the sign extension of the word (R11). -/
theorem ofInt_sext_24 (v : Word) : BitVec.ofInt 32 (sext 24 (field v 0 24)) = (v.extractLsb' 0 24).signExtend 32 := by
  have hint : (v.extractLsb' 0 24).toInt = sext 24 (field v 0 24) := by
    rw [field_eq_extractLsb', BitVec.toInt_eq_toNat_cond]
    rfl
  rw [BitVec.signExtend, hint]

/-- Settles O12: each row is the write path with its own iterator and part. -/
theorem colourAndDepthWritesSetTheIterator : Obligations.ColourAndDepthWritesSetTheIterator := by
  refine ⟨fun p hp k v s h => ?_, fun p hp k v s h => ?_, rfl, ofInt_sext_24⟩
  · have hrow : ∃ q part, p.1 < 256 ∧ exec (p.2.1 k v) s = regWrite p.1 (.param q part) k v s ∧
        (∀ f w, p.2.2 f w = setParam q part w f) ∧ q ≠ .z := by
      fin_cases hp <;> exact ⟨_, _, by decide, rfl, fun _ _ => rfl, by decide⟩
    obtain ⟨q, part, hn, hexec, hset, hq⟩ := hrow
    have hvalue : paramValue s.config.constants q v =
        BitVec.ofInt 32 (sext s.config.constants.colourBits (field v 0 s.config.constants.colourBits)) := by
      cases q with
      | z => exact absurd rfl hq
      | _ => rfl
    rw [hexec, hset, ← hvalue]
    exact regWrite_onFbi hn h rfl fun _ => rfl
  · have hrow : ∃ part, p.1 < 256 ∧ exec (p.2.1 k v) s = regWrite p.1 (.param .z part) k v s ∧
        ∀ f w, p.2.2 f w = setParam .z part w f := by
      fin_cases hp <;> exact ⟨_, by decide, rfl, fun _ _ => rfl⟩
    obtain ⟨part, hn, hexec, hset⟩ := hrow
    rw [hexec, hset]
    exact regWrite_onFbi hn h rfl fun _ => rfl

/-! ## Float-encoded registers (R148) -/

theorem paramFloatValue_colour (k : Constants) {q : Param} (hq : q ≠ .z) (v : Word) :
    paramFloatValue k q v = floatToFixed 32 k.floats.colour v := by
  cases q with
  | z => exact absurd rfl hq
  | _ => rfl

/-- Settles O13: each row is the write path with the corner or iterator of its integer register. -/
theorem floatVertexAndIteratorWritesConvert : Obligations.FloatVertexAndIteratorWritesConvert := by
  refine ⟨fun p hp k v s h => ?_, fun p hp k v s h => ?_, fun p hp k v s h => ?_, rfl, rfl, rfl⟩
  · have hrow : ∃ corner axis, p.1 < 256 ∧ exec (p.2.1 k v) s = regWrite p.1 (.vertexFloat corner axis) k v s ∧
        ∀ f w, p.2.2 f w = setVertex corner axis w f := by
      fin_cases hp <;> exact ⟨_, _, by decide, rfl, fun _ _ => rfl⟩
    obtain ⟨corner, axis, hn, hexec, hset⟩ := hrow
    rw [hexec, hset]
    exact regWrite_onFbi hn h rfl fun _ => rfl
  · have hrow : ∃ q part, p.1 < 256 ∧ exec (p.2.1 k v) s = regWrite p.1 (.paramFloat q part) k v s ∧
        (∀ f w, p.2.2 f w = setParam q part w f) ∧ q ≠ .z := by
      fin_cases hp <;> exact ⟨_, _, by decide, rfl, fun _ _ => rfl, by decide⟩
    obtain ⟨q, part, hn, hexec, hset, hq⟩ := hrow
    rw [hexec, hset, ← paramFloatValue_colour _ hq]
    exact regWrite_onFbi hn h rfl fun _ => rfl
  · have hrow : ∃ part, p.1 < 256 ∧ exec (p.2.1 k v) s = regWrite p.1 (.paramFloat .z part) k v s ∧
        ∀ f w, p.2.2 f w = setParam .z part w f := by
      fin_cases hp <;> exact ⟨_, by decide, rfl, fun _ _ => rfl⟩
    obtain ⟨part, hn, hexec, hset⟩ := hrow
    rw [hexec, hset]
    exact regWrite_onFbi hn h rfl fun _ => rfl

/-! ## Texture coordinates and W (R145, R146) -/

/-- Settles O14: each row is the write path with its own coordinate and part. -/
theorem textureCoordinateWritesSetTheUnits : Obligations.TextureCoordinateWritesSetTheUnits := by
  refine ⟨fun p hp k v s h => ?_, fun p hp k v s h => ?_, rfl⟩
  · have hrow : ∃ q part, p.1 < 256 ∧ exec (p.2.1 k v) s = regWrite p.1 (.tex q part) k v s ∧
        ∀ t w, p.2.2 t w = setTex q part w t := by
      fin_cases hp <;> exact ⟨_, _, by decide, rfl, fun _ _ => rfl⟩
    obtain ⟨q, part, hn, hexec, hset⟩ := hrow
    rw [hexec, hset, hset]
    exact regWrite_forUnits hn h rfl fun _ => rfl
  · have hrow : ∃ q part, p.1 < 256 ∧ exec (p.2.1 k v) s = regWrite p.1 (.texFloat q part) k v s ∧
        ∀ t w, p.2.2 t w = setTex q part w t := by
      fin_cases hp <;> exact ⟨_, _, by decide, rfl, fun _ _ => rfl⟩
    obtain ⟨q, part, hn, hexec, hset⟩ := hrow
    rw [hexec, hset, hset]
    exact regWrite_forUnits hn h rfl fun _ => rfl

/-- Settles O15: each row is the write path with its own part of W. -/
theorem wWritesSetEverySelectedSubChip : Obligations.WWritesSetEverySelectedSubChip := by
  refine ⟨fun p hp k v s h => ?_, fun p hp k v s h => ?_, rfl, rfl⟩
  · have hrow : ∃ part, p.1 < 256 ∧ exec (p.2.1 k v) s = regWrite p.1 (.w part) k v s ∧
        ∀ g w, p.2.2 g w = g.set part w := by
      fin_cases hp <;> exact ⟨_, by decide, rfl, fun _ _ => rfl⟩
    obtain ⟨part, hn, hexec, hset⟩ := hrow
    rw [hexec, hset, hset, hset]
    exact regWrite_setW hn h rfl fun _ => rfl
  · have hrow : ∃ part, p.1 < 256 ∧ exec (p.2.1 k v) s = regWrite p.1 (.wFloat part) k v s ∧
        ∀ g w, p.2.2 g w = g.set part w := by
      fin_cases hp <;> exact ⟨_, by decide, rfl, fun _ _ => rfl⟩
    obtain ⟨part, hn, hexec, hset⟩ := hrow
    rw [hexec, hset, hset, hset]
    exact regWrite_setW hn h rfl fun _ => rfl

/-! ## Texture parameters (R161, R180) -/

/-- Settles O21: each row is the write path that marks the selected units. -/
theorem textureParameterWritesMarkTheUnitDirty : Obligations.TextureParameterWritesMarkTheUnitDirty := by
  intro p hp k v s h
  have hrow : p.1 < 256 ∧ exec (p.2 k v) s = regWrite p.1 .texture k v s := by
    fin_cases hp <;> exact ⟨by decide, rfl⟩
  rw [hrow.2]
  exact regWrite_forUnits (change := fun t => { t with regdirty := true }) hrow.1 h rfl fun _ => rfl

/-! ## The fog table (R157) -/

/-- A pair of entries written into a table: the two, and no other. -/
theorem read_write_pair {m : Memory 8} (hm : m.wf = true) (n : Nat) (a b : Byte) (i : Nat) :
    ((m.write (2 * n) a).write (2 * n + 1) b).read i =
      if i = 2 * n + 1 then b else if i = 2 * n then a else m.read i := by
  rw [Memory.read_write (Memory.wf_write hm _ _), Memory.read_write hm]

/-- Settles O17: each row is the write path with its own pair of entries. -/
theorem fogTableWritesFillTwoEntries : Obligations.FogTableWritesFillTwoEntries := by
  intro p hp k v s h hdelta hblend
  have hrow : 0x58 + p.1 < 256 ∧ exec (p.2 k v) s = regWrite (0x58 + p.1) (.fogTable p.1) k v s := by
    fin_cases hp <;> exact ⟨by decide, rfl⟩
  obtain ⟨t, ht, hstores, heq⟩ := regWrite_onFbi (k := k) (v := v) hrow.1 h rfl
    (e := .fogTable p.1) (change := setFog p.1 v) fun _ => rfl
  have hfbi : t.fbi = if selected s.config k 0 = true then setFog p.1 v s.fbi else s.fbi := congrArg State.fbi heq
  refine ⟨t, hrow.2.trans ht, hstores, ?_, fun hsel => ?_, fun hsel => ?_⟩
  · conv_lhs => rw [heq]
    rw [hfbi]
    split <;> rfl
  · rw [if_pos hsel] at hfbi
    rw [hfbi]
    simp only [setFog, read_write_pair hdelta, read_write_pair hblend]
    refine ⟨by simp, by simp, by simp, by simp, fun i h0 h1 => ?_⟩
    rw [if_neg h1, if_neg h0, if_neg h1, if_neg h0]
    exact ⟨rfl, rfl⟩
  · rw [hfbi, hsel, if_neg Bool.false_ne_true]

/-! ## NCC tables and palettes (R158) -/

/-- Every selected unit takes the NCC write; the slot is stored unless it went to the palette (R130, R158). -/
theorem regWrite_ncc {s : State} {n : Nat} (hn : n < 256) (h : Accepts s n) (table : Fin 2) (i : Nat) (k : BitVec 4)
    (v : Word) :
    ∃ t, regWrite n (.ncc table i) k v s = .next t ∧ t.result = none ∧
      (4 ≤ i ∧ bit v 31 = true → t.regs = s.regs) ∧ (¬ (4 ≤ i ∧ bit v 31 = true) → Stores n k v s t) ∧
      t = { s with
        regs := t.regs, result := none,
        tmu0 := if selected s.config k 1 = true then nccWrite s.config.constants s.isV2 table i v s.tmu0 else s.tmu0,
        tmu1 := if selected s.config k 2 = true then nccWrite s.config.constants s.isV2 table i v s.tmu1
          else s.tmu1 } := by
  have hred : redirectsPalette i v = true ↔ 4 ≤ i ∧ bit v 31 = true := by
    simp only [redirectsPalette, Bool.and_eq_true, decide_eq_true_eq]
  cases hr : redirectsPalette i v with
  | true =>
    have hrun : regWrite n (.ncc table i) k v s =
        done (forUnits (selectOf s.config k) (nccWrite s.config.constants s.isV2 table i v) s) := by
      rw [regWrite_accepted h, writeStored, RegEffect.redirects, hr, if_pos rfl]
      rfl
    rw [forUnits_eq, selectOf_tmu0, selectOf_tmu1] at hrun
    exact ⟨_, hrun, rfl, fun _ => rfl, fun hne => absurd (hred.mp hr) hne, rfl⟩
  | false =>
    obtain ⟨t, ht, hstores, heq⟩ := regWrite_forUnits (k := k) hn h (e := .ncc table i) hr
      (change := nccWrite s.config.constants s.isV2 table i v) fun _ => rfl
    exact ⟨t, ht, hstores.result, fun hp => absurd (hred.mpr hp) (by rw [hr]; exact Bool.false_ne_true), fun _ => hstores,
      heq⟩

/-- Settles O18: each row is the write path with its own table and entry. -/
theorem nccWritesReachTheSelectedUnits : Obligations.NccWritesReachTheSelectedUnits := by
  refine ⟨fun p hp k v s h => ?_, fun p hp k v s h => ?_⟩
  · have hrow : 0xC9 + p.1 < 256 ∧ exec (p.2 k v) s = regWrite (0xC9 + p.1) (.ncc 0 p.1) k v s := by
      fin_cases hp <;> exact ⟨by decide, rfl⟩
    rw [hrow.2]
    exact regWrite_ncc hrow.1 h 0 p.1 k v
  · have hrow : 0xD5 + p.1 < 256 ∧ exec (p.2 k v) s = regWrite (0xD5 + p.1) (.ncc 1 p.1) k v s := by
      fin_cases hp <;> exact ⟨by decide, rfl⟩
    rw [hrow.2]
    exact regWrite_ncc hrow.1 h 1 p.1 k v

end Sys2Proof.Machine
end

section
/-! SUPPORT. Writes that a gate drops, and the fatal state (O8, O9, O58). -/

namespace Sys2Proof.Machine

open Sys2Proof

/-! ## Dropped writes (R132, R134, R165) -/

theorem writeDropped_of {s : State} {n : Nat}
    (h : writable s.config n = false ∨ (isFbiInit n = true ∧ bit s.initEnable 0 = false)) : writeDropped s n = true := by
  unfold writeDropped
  rcases h with hw | ⟨hi, hg⟩
  · rw [hw]
    rfl
  · rw [hi, hg]
    exact Bool.or_true _

/-- A write that a gate drops only clears the bus result, at a reserved index too. -/
theorem writeMeaning_dropped {s : State} (hf : s.fatal = none) {n : Nat} (h : writeDropped s n = true) (k : BitVec 4)
    (v : Word) : writeMeaning n k v s = .next { s with result := none } := by
  unfold writeMeaning
  split
  · exact reservedWrite_eq hf
  · exact regWrite_dropped hf h _ k v

/-- Settles O8: what decodes is the write path or the dropped write of its index, and both gates drop it. -/
theorem gatedWritesChangeNothing : Obligations.GatedWritesChangeNothing := by
  intro n k v i s hd hf hgate
  rw [exec_of_decode_regWr hd]
  exact writeMeaning_dropped hf (writeDropped_of hgate) k v

/-- What a read operation decodes to reads its effective index (R137, R139). -/
theorem exec_of_decode_read {offset : Word} {j : Instr} (hd : decode (.regRd offset) = .ok j) (s : State) :
    exec j s = regRead (effectiveIndex s offset) (offsetChips offset) s := by
  cases hd
  cases h : aliasable offset with
  | true => rw [decodeRegRd_aliasable h, exec_regRd]
  | false => rw [exec_decodeRegRd h, effectiveIndex_eq_field s h]

/-- Settles O9: the write was dropped, and no read looks at the bus result. -/
theorem unwritableNeverChangesReads : Obligations.UnwritableNeverChangesReads := by
  intro n k v offset i j s t hd hw ht hread
  rw [exec_of_decode_regWr hd] at ht
  have hf : s.fatal = none := by
    unfold writeMeaning reservedWrite regWrite at ht
    split at ht
    · exact (unlessFatal_next ht).1
    · exact (unlessFatal_next ht).1
  rw [writeMeaning_dropped hf (writeDropped_of (.inl hw))] at ht
  cases ht
  rw [exec_of_decode_read hread, exec_of_decode_read hread]
  rfl

/-! ## The fatal state (R135, R402, R420) -/

theorem regRead_fatal {s : State} {r : FatalReason} (h : s.fatal = some r) (n : Nat) (k : BitVec 4) :
    regRead n k s = .fault (.fatal r) := unlessFatal_some h

theorem regWrite_fatal {s : State} {r : FatalReason} (h : s.fatal = some r) (n : Nat) (e : RegEffect) (k : BitVec 4)
    (v : Word) : regWrite n e k v s = .fault (.fatal r) := unlessFatal_some h

theorem writeMeaning_fatal {s : State} {r : FatalReason} (h : s.fatal = some r) (n : Nat) (k : BitVec 4) (v : Word) :
    writeMeaning n k v s = .fault (.fatal r) := by
  unfold writeMeaning
  split
  · exact unlessFatal_some h
  · exact regWrite_fatal h _ _ _ _

/-- Every operation but RESET stops with the reason. -/
theorem exec_fatal {s : State} {r : FatalReason} (h : s.fatal = some r) {i : Instr} (hi : ∀ c q, i ≠ .reset c q) :
    exec i s = .fault (.fatal r) := by
  rcases instr_cases i with hbus | ⟨n, -, hread⟩ | ⟨n, row, k, v, -, hrow, rfl⟩
  · rcases hbus with ⟨o, v, rfl⟩ | ⟨o, rfl⟩ | ⟨o, v, m, rfl⟩ | ⟨o, rfl⟩ | ⟨o, v, rfl⟩ | ⟨v, rfl⟩ | ⟨c, q, rfl⟩
    · exact regWrite_fatal h _ _ _ _
    · exact regRead_fatal h _ _
    · exact unlessFatal_some h
    · exact unlessFatal_some h
    · exact unlessFatal_some h
    · exact (unlessFatal_some h : unlessFatal s (fun s => done { s with initEnable := v }) = _)
    · exact absurd rfl (hi c q)
  · rw [hread, regRead_fatal h]
  · rw [exec_writeRow hrow, writeMeaning_fatal h]

/-- Settles O58: every meaning but RESET's starts with the fatal check, and a supported RESET starts from no reason. -/
theorem fatalStateHasNoStep : Obligations.FatalStateHasNoStep := by
  refine ⟨fun i s r h hi => exec_fatal h hi, fun c q s hfb htm => ⟨resetTo c q s, ?_, rfl⟩⟩
  have hexec : exec (.reset c q) s = execReset c q s := rfl
  rw [hexec, execReset, hfb, htm]
  rfl

end Sys2Proof.Machine
end

section
/-! SUPPORT. The counter reset, and the writes of the init registers, nopCMD, swapbufferCMD, dacData, sBeginTriCMD and
sARGB (O24, O25, O27, O28, O30, O39, O42). -/

namespace Sys2Proof.Machine

open Sys2Proof

/-! ## The counter reset (R151, R162) -/

theorem clearStats_reg {s : State} (hw : s.regs.wf = true) {bank i : Nat} (hi : i < 256) :
    (clearStats s).reg bank i =
      if bank = 0 ∧ Reg.fbiPixelsIn ≤ i ∧ i ≤ Reg.fbiPixelsOut then 0 else s.reg bank i := by
  have h1 := State.wf_setReg hw 0 Reg.fbiPixelsIn 0
  have h2 := State.wf_setReg h1 0 Reg.fbiChromaFail 0
  have h3 := State.wf_setReg h2 0 Reg.fbiZfuncFail 0
  have h4 := State.wf_setReg h3 0 Reg.fbiAfuncFail 0
  unfold clearStats
  simp only [State.reg_setStats]
  rw [State.reg_setReg h4 _ _ _ _ (by decide) hi, State.reg_setReg h3 _ _ _ _ (by decide) hi,
    State.reg_setReg h2 _ _ _ _ (by decide) hi, State.reg_setReg h1 _ _ _ _ (by decide) hi,
    State.reg_setReg hw _ _ _ _ (by decide) hi]
  simp only [Reg.fbiPixelsIn, Reg.fbiChromaFail, Reg.fbiZfuncFail, Reg.fbiAfuncFail, Reg.fbiPixelsOut]
  grind

theorem counterReset_eq (clearAll clearTriangles : Bool) (s : State) :
    counterReset clearAll clearTriangles s =
      { s with
        regs := (counterReset clearAll clearTriangles s).regs,
        stats := if clearAll = true then Stats.zero else s.stats } := by
  have triangles : ∀ u : State, (if (clearTriangles && u.isV2) = true then u.setReg 0 Reg.fbiTrianglesOut 0 else u) =
      { u with
        regs := (if (clearTriangles && u.isV2) = true then u.setReg 0 Reg.fbiTrianglesOut 0 else u).regs } := by
    intro u
    split <;> rfl
  cases clearAll
  · exact triangles s
  · exact triangles (clearStats s)

theorem clearStats_wf {s : State} (hw : s.regs.wf = true) : (clearStats s).regs.wf = true :=
  State.wf_setReg (State.wf_setReg (State.wf_setReg (State.wf_setReg (State.wf_setReg hw _ _ _) _ _ _) _ _ _) _ _ _) _ _ _

/-- The reset clears the registers its two flags name, the triangles' under V2 alone. -/
theorem counterReset_reg {s : State} (hw : s.regs.wf = true) (clearAll clearTriangles : Bool) {bank i : Nat}
    (hi : i < 256) :
    (counterReset clearAll clearTriangles s).reg bank i =
      if bank = 0 ∧ Reg.fbiPixelsIn ≤ i ∧ i ≤ Reg.fbiPixelsOut ∧ clearAll = true then 0
      else if bank = 0 ∧ i = Reg.fbiTrianglesOut ∧ s.isV2 = true ∧ clearTriangles = true then 0
      else s.reg bank i := by
  have triangles : ∀ {u : State}, u.regs.wf = true →
      (if (clearTriangles && u.isV2) = true then u.setReg 0 Reg.fbiTrianglesOut 0 else u).reg bank i =
        if bank = 0 ∧ i = Reg.fbiTrianglesOut ∧ u.isV2 = true ∧ clearTriangles = true then 0 else u.reg bank i := by
    intro u hu
    split
    · rename_i hc
      rw [State.reg_setReg hu _ _ _ _ (by decide) hi]
      simp only [Bool.and_eq_true] at hc
      simp only [hc, and_true]
    · rename_i hc
      rw [if_neg]
      rintro ⟨-, -, hv, ht⟩
      exact hc (by rw [hv, ht]; rfl)
  unfold counterReset
  cases clearAll with
  | false =>
    rw [if_neg Bool.false_ne_true, triangles hw, if_neg (c := bank = 0 ∧ _ ∧ _ ∧ false = true) (by simp)]
  | true =>
    rw [if_pos rfl, triangles (clearStats_wf hw), clearStats_reg hw hi]
    have hapart : ¬(Reg.fbiPixelsIn ≤ Reg.fbiTrianglesOut ∧ Reg.fbiTrianglesOut ≤ Reg.fbiPixelsOut) := by decide
    have hv : (clearStats s).isV2 = s.isV2 := rfl
    rw [hv]
    grind

theorem stored_isV2 (n : Nat) (k : BitVec 4) (v : Word) (s : State) : (stored n k v s).isV2 = s.isV2 := by
  rw [stored_eq]
  rfl

theorem ite_counterReset (c a b : Bool) (s : State) :
    (if c = true then counterReset a b s else s) = counterReset (c && a) (c && b) s := by
  cases c <;> rfl

/-- Settles O28: the command is its store and the counter reset where the FBI is selected. -/
theorem nopCommandClearsTheCountersItNames : Obligations.NopCommandClearsTheCountersItNames := by
  intro k v s h
  have hexec : exec (.nopCMD k v) s = regWrite 0x48 .nop k v s := rfl
  have hrun : regWrite 0x48 .nop k v s = done (counterReset (selected s.config k 0 && bit v 0)
      (selected s.config k 0 && bit v 1) (stored 0x48 k v s)) := by
    rw [regWrite_run h rfl, ← ite_counterReset, ← selectOf_fbi]
    rfl
  refine ⟨_, hexec.trans hrun, fun bank i hb hi => ?_, ?_⟩
  · have hreg := counterReset_reg (stored_wf h.canonical 0x48 k v) (selected s.config k 0 && bit v 0)
      (selected s.config k 0 && bit v 1) (bank := bank) hi
    rw [stored_reg h.canonical (by decide) k v hb hi, stored_isV2] at hreg
    simp only [Bool.and_eq_true] at hreg
    exact hreg
  · have heq := counterReset_eq (selected s.config k 0 && bit v 0) (selected s.config k 0 && bit v 1) (stored 0x48 k v s)
    obtain ⟨r, hr⟩ : ∃ r, stored 0x48 k v s = { s with regs := r } := ⟨_, stored_eq _ _ _ _⟩
    rw [hr] at heq ⊢
    simp only [Bool.and_eq_true] at heq
    exact congrArg (fun t : State => ({ t with result := none } : State)) heq

/-! ## The init registers (R134, R162) -/

theorem stored_isRegs (n : Nat) (k : BitVec 4) (v : Word) (s : State) :
    ∃ r, stored n k v s = { s with regs := r } := ⟨_, stored_eq n k v s⟩

/-- The layout of a state does not depend on the layout it has. -/
theorem layoutOf_regs {s t : State} (hc : t.config = s.config) (hr : t.regs = s.regs) : layoutOf t = layoutOf s :=
  layoutOf_congr hc fun _ _ => by simp only [State.reg, hr]

/-- Settles O24: each row is the store and the layout of the stored registers. -/
theorem initWritesRecomputeTheLayout : Obligations.InitWritesRecomputeTheLayout := by
  intro p hp k v s h
  have hrow : p.1 < 256 ∧ exec (p.2 k v) s = regWrite p.1 .layout k v s := by
    fin_cases hp <;> exact ⟨by decide, rfl⟩
  obtain ⟨hn, hexec⟩ := hrow
  obtain ⟨r, hr⟩ := stored_isRegs p.1 k v s
  have hrun : regWrite p.1 .layout k v s = done (recomputeLayout { s with regs := r }) := by
    rw [regWrite_run h rfl, hr]
    rfl
  refine ⟨_, hexec.trans hrun, stores_of_regs h.canonical hn rfl (by rw [hr]; rfl), ?_⟩
  have hlayout : layoutOf { s with regs := r } = layoutOf { recomputeLayout { s with regs := r } with result := none } :=
    layoutOf_regs rfl rfl
  exact congrArg (fun l => ({ s with regs := r, result := none, fbi := l s.fbi } : State)) hlayout

/-- Settles O25: the row is the store, the layout of the stored registers and the counter reset on bit 1. -/
theorem initZeroWriteRecomputesAndResetsCounters : Obligations.InitZeroWriteRecomputesAndResetsCounters := by
  intro k v s h
  obtain ⟨r, hr⟩ := stored_isRegs 0x84 k v s
  have hwf : r.wf = true := by simpa only [hr] using stored_wf h.canonical 0x84 k v
  generalize hc : (selected s.config k 0 && bit v 1) = c
  have hiff : c = true ↔ selected s.config k 0 = true ∧ bit v 1 = true := by rw [← hc, Bool.and_eq_true]
  have hrun : exec (.fbiInit0 k v) s = done (counterReset c c (recomputeLayout { s with regs := r })) := by
    have hexec : exec (.fbiInit0 k v) s = regWrite 0x84 .layoutReset k v s := rfl
    have hand : counterReset c c (recomputeLayout { s with regs := r }) =
        if c = true then counterReset true true (recomputeLayout { s with regs := r })
        else recomputeLayout { s with regs := r } := by
      rw [ite_counterReset, Bool.and_true]
    rw [hexec, regWrite_run h rfl, hr, hand, ← hc, ← selectOf_fbi]
    rfl
  refine ⟨_, hrun, fun bank i hb hi => ?_, ?_⟩
  · have hreg := counterReset_reg (s := recomputeLayout { s with regs := r }) hwf c c (bank := bank) hi
    have hslot := stored_reg h.canonical (by decide : 0x84 < 256) k v hb hi
    rw [hr] at hslot
    rw [show (recomputeLayout { s with regs := r }).reg bank i = _ from hslot] at hreg
    simp only [hiff] at hreg
    exact hreg
  · have heq := counterReset_eq c c (recomputeLayout { s with regs := r })
    have hlayout : layoutOf (counterReset c c (recomputeLayout { s with regs := r })) = layoutOf { s with regs := r } := by
      refine layoutOf_congr (by rw [heq]; rfl) fun i hi => ?_
      have hlt : i < 256 ∧ ¬(Reg.fbiPixelsIn ≤ i ∧ i ≤ Reg.fbiPixelsOut) ∧ i ≠ Reg.fbiTrianglesOut := by
        simp only [isFbiInit, Bool.or_eq_true, Bool.and_eq_true, decide_eq_true_eq] at hi
        simp only [Reg.fbiPixelsIn, Reg.fbiPixelsOut, Reg.fbiTrianglesOut]
        omega
      exact counterReset_reg_other _ c c hlt.1 hlt.2.1 hlt.2.2
    have hlayout' : layoutOf { counterReset c c (recomputeLayout { s with regs := r }) with result := none } =
        layoutOf { s with regs := r } := (layoutOf_regs rfl rfl).trans hlayout
    rw [hlayout']
    simp only [← hiff]
    exact congrArg (fun t : State => ({ t with result := none } : State)) heq

/-! ## The DAC (R159) -/

/-- A push leaves the read result; a read leaves the registers. -/
theorem dacCommand_push {c : Config} {v : Word} (h : bit v 11 = false) (d : Dac) : dacCommand c v d =
    { d with reg := d.reg.write (DacData.index c.constants v % 8) (BitVec.ofNat 8 (DacData.data c.constants v)) } := by
  unfold dacCommand DacData.read
  rw [h]
  rfl

theorem dacCommand_read {c : Config} {v : Word} (h : bit v 11 = true) (d : Dac) : dacCommand c v d =
    { d with readResult := dacRead c d (DacData.index c.constants v % 8) } := by
  unfold dacCommand DacData.read
  rw [h]
  rfl

/-- Settles O27: the row is the store and the DAC's command where the FBI is selected. -/
theorem dacDataPushesOrLatches : Obligations.DacDataPushesOrLatches := by
  refine ⟨fun k v s h hd => ?_, fun v => ⟨readField_run _ _ v, readField_run _ _ v⟩, rfl⟩
  obtain ⟨t, ht, hstores, heq⟩ := regWrite_sets (k := k) (v := v) (by decide) h (e := .dac) rfl
    (d := if selected s.config k 0 = true then dacCommand s.config v s.dac else s.dac) fun r _ => by
      rw [← selectOf_fbi]
      simp only [RegEffect.run, RegEffect.change]
      split <;> rfl
  have hdac : t.dac = if selected s.config k 0 = true then dacCommand s.config v s.dac else s.dac :=
    congrArg State.dac heq
  refine ⟨t, ht, hstores, ?_, fun hsel => ?_, fun hsel hbit => ?_, fun hsel hbit => ?_⟩
  · conv_lhs => rw [heq]
    rw [hdac]
  · rw [hdac, hsel, if_neg Bool.false_ne_true]
  · rw [hdac, if_pos hsel, dacCommand_push hbit]
    exact ⟨rfl, fun r => Memory.read_write hd _ _ _⟩
  · rw [hdac, if_pos hsel, dacCommand_read hbit]
    exact ⟨rfl, rfl⟩

/-! ## The setup-mode registers (R147, R155) -/

/-- The captured vertex is read from the fourteen setup-vertex slots alone. -/
theorem capture_slotsBut {n : Nat} {s u : State} (h : SlotsBut n s u) (hn : n < 0x99 ∨ 0xA7 < n ∨ n = 0x9B) :
    capture u = capture s := by
  have hreg : ∀ i, 0x99 ≤ i → i ≤ 0xA7 → i ≠ 0x9B → u.reg 0 i = s.reg 0 i := fun i h1 h2 h3 =>
    h 0 i (by decide) (by omega) (by omega)
  simp (disch := decide) only [capture, hreg]

/-- Settles O39: the row is the store and the ring filled with the captured vertex. -/
theorem beginFillsTheVertexRing : Obligations.BeginFillsTheVertexRing := by
  intro k v s h
  have hexec : exec (.sBeginTriCMD k v) s = regWrite 0xA9 .setupBegin k v s := rfl
  rw [hexec]
  refine regWrite_sets (by decide) h rfl fun r hr => ?_
  have hcapture := capture_slotsBut hr (by decide)
  simp only [RegEffect.run, RegEffect.change, beginStrip, hcapture, ← selectOf_fbi]
  split <;> rfl

/-- The four lanes in the four colour slots of bank 0, no other slot (R147). -/
theorem setupArgb_reg {s : State} (hw : s.regs.wf = true) (v : Word) {bank i : Nat} (hi : i < 256) :
    (setupArgb v s).reg bank i =
      if bank = 0 ∧ i = 0x9F then floatOfNat (field v 24 8)
      else if bank = 0 ∧ i = 0x9C then floatOfNat (field v 16 8)
      else if bank = 0 ∧ i = 0x9D then floatOfNat (field v 8 8)
      else if bank = 0 ∧ i = 0x9E then floatOfNat (field v 0 8)
      else s.reg bank i := by
  have h1 := State.wf_setReg hw 0 Reg.sAlpha (floatOfNat (Argb.alpha v))
  have h2 := State.wf_setReg h1 0 Reg.sRed (floatOfNat (Argb.red v))
  have h3 := State.wf_setReg h2 0 Reg.sGreen (floatOfNat (Argb.green v))
  unfold setupArgb
  rw [State.reg_setReg h3 _ _ _ _ (by decide) hi, State.reg_setReg h2 _ _ _ _ (by decide) hi,
    State.reg_setReg h1 _ _ _ _ (by decide) hi, State.reg_setReg hw _ _ _ _ (by decide) hi]
  simp only [Reg.sAlpha, Reg.sRed, Reg.sGreen, Reg.sBlue, Argb.alpha, Argb.red, Argb.green, Argb.blue]
  grind

/-- Settles O42: the row is the store and the four lanes in the colour slots; each pattern of a byte reads back. -/
theorem packedColourFillsTheSetupColours : Obligations.PackedColourFillsTheSetupColours := by
  constructor
  · intro k v s h
    obtain ⟨r, hr⟩ := stored_isRegs 0x9B k v s
    have hexec : exec (.sARGB k v) s = regWrite 0x9B .setupArgb k v s := rfl
    have hslot : ∀ bank i, bank < 4 → i < 256 → _ := fun bank i hb hi =>
      stored_reg (bank := bank) (i := i) h.canonical (by decide : 0x9B < 256) k v hb hi
    have hwf : r.wf = true := by simpa only [hr] using stored_wf h.canonical 0x9B k v
    simp only [hr] at hslot
    have hrun : regWrite 0x9B .setupArgb k v s = done (if selected s.config k 0 = true then
        setupArgb v { s with regs := r } else { s with regs := r }) := by
      rw [regWrite_run h rfl, hr, ← selectOf_fbi]
      rfl
    rw [hexec, hrun]
    cases hsel : selected s.config k 0 with
    | false =>
      refine ⟨_, rfl, rfl, fun bank i hb hi => ?_⟩
      simp only [Bool.false_eq_true, false_and, and_false, if_false]
      exact hslot bank i hb hi
    | true =>
      refine ⟨_, rfl, rfl, fun bank i hb hi => ?_⟩
      have hargb := setupArgb_reg (s := { s with regs := r }) hwf v (bank := bank) hi
      rw [hslot bank i hb hi] at hargb
      simp only [true_and]
      exact hargb
  · have hbytes : ∀ n : Fin 256, floatToInt 32 (floatOfBits (floatOfNat n.val)) = BitVec.ofNat 32 n.val := by
      decide +kernel
    exact fun n hn => hbytes ⟨n, hn⟩

/-! ## Swap (R153, R386, R387) -/

theorem noSwap_iff (v : Word) (s : State) :
    noSwap v s = true ↔ s.isV2 = true ∧ ∃ i, s.config.swapNoswapBit = some i ∧ bit v i.val = true := by
  unfold noSwap
  rw [Bool.and_eq_true]
  refine and_congr_right fun _ => ?_
  cases s.config.swapNoswapBit with
  | none => simp
  | some i => simp

theorem recordHistory_reg {s : State} (hw : s.regs.wf = true) {bank i : Nat} (hi : i < 256) :
    (recordHistory s).reg bank i =
      if bank = 0 ∧ i = Reg.fbiSwapHistory then
        s.reg 0 Reg.fbiSwapHistory <<< s.config.constants.historyBits |||
          BitVec.ofNat 32 (min s.fbi.swapCount.toNat (2 ^ s.config.constants.historyBits - 1))
      else s.reg bank i := State.reg_setReg hw _ _ _ _ (by decide) hi _

/-- The swap records the interval, turns the buffers unless told not to, and clears the count (R386, R387). -/
theorem swapBuffers_eq (v : Word) (s : State) : swapBuffers v s =
    { recordHistory s with
      fbi := { (if noSwap v s = true then s.fbi else rotateBuffers s.fbi) with swapCount := 0 } } := rfl

/-- Two buffers are exchanged (R386). -/
theorem rotateBuffers_two {f : Fbi} (hn : f.rgb2 = none) (hi : f.indicesOk = true) :
    (rotateBuffers f).frontbuf.val = 1 - f.frontbuf.val ∧
      (rotateBuffers f).backbuf.val = 1 - (rotateBuffers f).frontbuf.val := by
  have hfront : f.frontbuf ≠ 2 := by
    intro h2
    simp [Fbi.indicesOk, hn, h2] at hi
  have hall : ∀ i : Fin 3, i ≠ 2 → (if i = 0 then (1 : Fin 3) else 0).val = 1 - i.val ∧
      (if i = 0 then (0 : Fin 3) else 1).val = 1 - (if i = 0 then (1 : Fin 3) else 0).val := by decide
  unfold rotateBuffers
  rw [hn]
  exact hall f.frontbuf hfront

/-- Three buffers are rotated (R386). -/
theorem rotateBuffers_three {f : Fbi} (hn : f.rgb2 ≠ none) :
    (rotateBuffers f).frontbuf.val = (f.frontbuf.val + 1) % 3 ∧
      (rotateBuffers f).backbuf.val = ((rotateBuffers f).frontbuf.val + 1) % 3 := by
  obtain ⟨b, hb⟩ := Option.ne_none_iff_exists'.mp hn
  unfold rotateBuffers
  rw [hb]
  exact ⟨Fin.val_add _ _, Fin.val_add _ _⟩

/-- Settles O30: the row is the store and the swap where the FBI is selected. -/
theorem swapRotatesTheBuffersAndRecordsIt : Obligations.SwapRotatesTheBuffersAndRecordsIt := by
  refine ⟨fun k v s h hidx => ?_, rfl⟩
  obtain ⟨r, hr⟩ := stored_isRegs 0x4A k v s
  have hslot : ∀ bank i, bank < 4 → i < 256 → _ := fun bank i hb hi =>
    stored_reg (bank := bank) (i := i) h.canonical (by decide : 0x4A < 256) k v hb hi
  have hwf : r.wf = true := by simpa only [hr] using stored_wf h.canonical 0x4A k v
  simp only [hr] at hslot
  have hexec : exec (.swapbufferCMD k v) s = done (if selected s.config k 0 = true then
      swapBuffers v { s with regs := r } else { s with regs := r }) := by
    have hrow : exec (.swapbufferCMD k v) s = regWrite 0x4A .swap k v s := rfl
    rw [hrow, regWrite_run h rfl, hr, ← selectOf_fbi]
    rfl
  rw [hexec]
  cases hsel : selected s.config k 0 with
  | false =>
    refine ⟨_, rfl, fun bank i hb hi => ?_, rfl, fun _ => rfl, fun hcon => absurd hcon Bool.false_ne_true⟩
    simp only [Bool.false_eq_true, and_false, if_false]
    exact hslot bank i hb hi
  | true =>
    rw [if_pos (rfl : true = true)]
    refine ⟨_, rfl, fun bank i hb hi => ?_, ?_, fun hcon => absurd hcon.symm Bool.false_ne_true, fun _ => ⟨rfl, ?_, ?_, ?_⟩⟩
    · have hreg := recordHistory_reg (s := { s with regs := r }) hwf (bank := bank) hi
      have hold : State.reg { s with regs := r } 0 Reg.fbiSwapHistory = s.reg 0 Reg.fbiSwapHistory :=
        (hslot 0 _ (by decide) (by decide)).trans (if_neg fun hc => absurd hc.1 (by decide))
      rw [hslot bank i hb hi, hold] at hreg
      simp only [and_true]
      exact hreg
    · obtain ⟨i, j, hrot, -⟩ := rotateBuffers_eq s.fbi
      simp only [swapBuffers_eq, hrot]
      split <;> rfl
    · intro hno
      have hv : noSwap v { s with regs := r } = true := (noSwap_iff v _).mpr hno
      simp only [swapBuffers_eq, if_pos hv, and_self]
    · intro hno htwo
      have hv : ¬ noSwap v { s with regs := r } = true := fun hc => hno ((noSwap_iff v _).mp hc)
      simp only [swapBuffers_eq, if_neg hv]
      exact rotateBuffers_two htwo hidx
    · intro hno hthree
      have hv : ¬ noSwap v { s with regs := r } = true := fun hc => hno ((noSwap_iff v _).mp hc)
      simp only [swapBuffers_eq, if_neg hv]
      exact rotateBuffers_three hthree

end Sys2Proof.Machine
end

section
/-! SUPPORT. float_to_fixed by the range of its exponent (R148; O16). -/

namespace Sys2Proof.Machine

open Sys2Proof

/-- The sign of a binary32 pattern. -/
def floatSign (data : Word) : Int := if bit data 31 = true then -1 else 1

/-- The unbiased exponent less the mantissa's 23 places, plus the fraction bits (R148). -/
def fixedExponent (fixedbits : Nat) (data : Word) : Int := (field data 23 8 : Int) - 150 + fixedbits

/-- The mantissa with its implicit 1. -/
def fixedMantissa (data : Word) : Nat := field data 0 23 + 2 ^ 23

/-- The magnitude by the range of the exponent: truncated, moved up, or saturated. -/
def fixedMagnitude (w fixedbits : Nat) (data : Word) : Nat :=
  if fixedExponent fixedbits data < 0 then fixedMantissa data / 2 ^ (-fixedExponent fixedbits data).toNat
  else if fixedExponent fixedbits data < w then fixedMantissa data * 2 ^ (fixedExponent fixedbits data).toNat
  else 2 ^ (w - 1) - 1

/-- A shift of the 24-bit mantissa by 24 places or more leaves nothing. -/
theorem fixedMantissa_div_eq_zero (data : Word) {n : Nat} (h : 24 ≤ n) : fixedMantissa data / 2 ^ n = 0 := by
  have hm := field_lt data 0 23
  have hpow : 2 ^ 24 ≤ 2 ^ n := Nat.pow_le_pow_right (by decide) h
  refine Nat.div_eq_of_lt ?_
  unfold fixedMantissa
  omega

theorem ite_neg_ofNat (w m : Nat) (b : Bool) :
    (if b = true then -(BitVec.ofNat w m) else BitVec.ofNat w m) =
      BitVec.ofInt w ((if b = true then -1 else 1) * (m : Int)) := by
  cases b with
  | false => simp
  | true => simp [BitVec.ofInt_neg]

/-- `float_to_fixed` is its signed magnitude, modulo the width. -/
theorem floatToFixed_eq {w : Nat} (hw : 24 ≤ w) (fixedbits : Nat) (data : Word) :
    floatToFixed w fixedbits data = BitVec.ofInt w (floatSign data * (fixedMagnitude w fixedbits data : Int)) := by
  have he : (field data 23 8 : Int) - 127 - 23 + fixedbits = fixedExponent fixedbits data := by
    unfold fixedExponent
    omega
  have hmag : (if fixedExponent fixedbits data < 0 then
        (if -(w : Int) < fixedExponent fixedbits data then
          BitVec.ofNat w (fixedMantissa data >>> (-fixedExponent fixedbits data).toNat) else 0)
      else if fixedExponent fixedbits data < w then
        BitVec.ofNat w (fixedMantissa data <<< (fixedExponent fixedbits data).toNat)
      else BitVec.ofNat w (2 ^ (w - 1) - 1)) = BitVec.ofNat w (fixedMagnitude w fixedbits data) := by
    unfold fixedMagnitude
    rw [Nat.shiftLeft_eq, Nat.shiftRight_eq_div_pow]
    split
    · split
      · rfl
      · rw [fixedMantissa_div_eq_zero data (by omega)]
        rfl
    · split <;> rfl
  rw [floatSign, ← ite_neg_ofNat, ← hmag]
  unfold floatToFixed
  simp only [he]
  rfl

/-- A magnitude inside the width is read back with its sign. -/
theorem toInt_floatToFixed {w : Nat} (hw : 24 ≤ w) {fixedbits : Nat} {data : Word}
    (h : fixedMagnitude w fixedbits data < 2 ^ (w - 1)) :
    (floatToFixed w fixedbits data).toInt = floatSign data * (fixedMagnitude w fixedbits data : Int) := by
  have hcast : (fixedMagnitude w fixedbits data : Int) < 2 ^ (w - 1) := by exact_mod_cast h
  rw [floatToFixed_eq hw]
  refine BitVec.toInt_ofInt_eq_self (by omega) ?_ ?_ <;> (unfold floatSign; split <;> omega)

/-- Settles O16: the three ranges of the exponent are the three branches of the magnitude. -/
theorem floatDecodingTruncatesTheMagnitude : Obligations.FloatDecodingTruncatesTheMagnitude := by
  intro w fixedbits data hw e m sign
  have hw24 : 24 ≤ w := by omega
  refine ⟨fun he => ?_, fun h0 he => ?_, fun he => ?_⟩
  · have hmag : fixedMagnitude w fixedbits data = m / 2 ^ (-e).toNat := if_pos he
    have hlt : m / 2 ^ (-e).toNat < 2 ^ (w - 1) := by
      have hm := field_lt data 0 23
      have hpow : (2 : Nat) ^ 24 ≤ 2 ^ (w - 1) := Nat.pow_le_pow_right (by decide) (by omega)
      have hdiv : m / 2 ^ (-e).toNat ≤ m := Nat.div_le_self _ _
      omega
    exact (toInt_floatToFixed hw24 (hmag ▸ hlt)).trans (by rw [hmag]; rfl)
  · have hmag : fixedMagnitude w fixedbits data = m * 2 ^ e.toNat :=
      (if_neg (not_lt.mpr h0)).trans (if_pos he)
    rw [floatToFixed_eq hw24, hmag]
    rfl
  · have h0 : ¬ e < 0 := by omega
    have hmag : fixedMagnitude w fixedbits data = 2 ^ (w - 1) - 1 := (if_neg h0).trans (if_neg (not_lt.mpr he))
    have hpos : 0 < 2 ^ (w - 1) := Nat.two_pow_pos _
    have hcast : ((2 ^ (w - 1) - 1 : Nat) : Int) = 2 ^ (w - 1) - 1 := by push_cast [hpos]; rfl
    rw [toInt_floatToFixed hw24 (by omega), hmag, hcast]
    rfl

end Sys2Proof.Machine
end

section
/-! SUPPORT. The submission of a triangle by its cases, from the state that the store of a command leaves; commands that
draw nothing (O33, O36, O40). -/

namespace Sys2Proof.Machine

open Sys2Proof

/-! ## States that a triangle reads alike -/

/-- The slots that the three triangle commands store in, which no drawing reads. -/
def commandSlots : List Nat := [0x20, 0x40, 0xA8]

/-- The same configuration, and the same registers but the commands' own slots. -/
structure SameModes (s u : State) : Prop where
  config : u.config = s.config
  reg : ∀ bank i, bank < 4 → i < 256 → i ∉ commandSlots → u.reg bank i = s.reg bank i

namespace SameModes

variable {s t u : State}

theorem of_slotsBut {n : Nat} (hn : n ∈ commandSlots) {r : Memory 32} (h : SlotsBut n s { s with regs := r }) :
    SameModes s { s with regs := r } where
  config := rfl
  reg := fun b i hb hi hne => h b i hb hi fun he => hne (he ▸ hn)

theorem of_eq (hc : u.config = s.config) (hr : u.regs = s.regs) : SameModes s u where
  config := hc
  reg := fun b i _ _ _ => by simp only [State.reg, hr]

theorem reg0 (h : SameModes s u) {i : Nat} (hi : i < 256 ∧ i ∉ commandSlots) : u.reg 0 i = s.reg 0 i :=
  h.reg 0 i (by decide) hi.1 hi.2

theorem texReg (h : SameModes s u) {k : Nat} (hk : k < 2) {i : Nat} (hi : i < 256 ∧ i ∉ commandSlots) :
    u.texReg k i = s.texReg k i := h.reg (k + 1) i (by omega) hi.1 hi.2

theorem isV2 (h : SameModes s u) : u.isV2 = s.isV2 := by
  unfold State.isV2
  rw [h.config]

theorem activeUnits_eq (h : SameModes s u) : activeUnits u = activeUnits s := by
  unfold activeUnits
  rw [h.config, h.reg0 (by decide), h.reg0 (by decide)]

theorem makeKey_eq (h : SameModes s u) (n : Nat) : makeKey n u = makeKey n s := by
  simp (disch := decide) only [makeKey, h.config, h.reg0, h.texReg]

theorem cacheRoom_iff (h : SameModes s u) (hc : u.cache = s.cache) : u.cacheRoom ↔ s.cacheRoom := by
  unfold State.cacheRoom
  rw [hc, h.config, h.activeUnits_eq, h.makeKey_eq]

end SameModes

/-! ## The sub-pixel step (R238) -/

theorem adjusted_eq (s : State) : adjusted s =
    { s with fbi := (adjusted s).fbi, tmu0 := (adjusted s).tmu0, tmu1 := (adjusted s).tmu1 } := by
  unfold adjusted
  split <;> rfl

theorem adjusted_same (s : State) : SameModes s (adjusted s) := by
  rw [adjusted_eq]
  exact .of_eq rfl rfl

theorem adjusted_cache (s : State) : (adjusted s).cache = s.cache := (congrArg State.cache (adjusted_eq s) :)

theorem adjusted_drawBuffer (s : State) :
    FbzMode.drawBuffer (adjusted s).config.constants ((adjusted s).reg 0 Reg.fbzMode) =
      FbzMode.drawBuffer s.config.constants (s.reg 0 Reg.fbzMode) := by
  rw [(adjusted_same s).config, (adjusted_same s).reg0 (by decide)]

theorem adjusted_cacheRoom (s : State) : (adjusted s).cacheRoom ↔ s.cacheRoom :=
  (adjusted_same s).cacheRoom_iff (adjusted_cache s)

/-- The step does not read the commands' slots. -/
theorem adjusted_setRegs {s : State} {r : Memory 32} (h : SameModes s { s with regs := r }) :
    adjusted { s with regs := r } = { adjusted s with regs := r } := by
  unfold adjusted
  rw [h.reg0 (by decide), h.activeUnits_eq]
  split <;> rfl

/-! ## Submission (R230, R272, R274) -/

theorem resolve_room {s : State} (h : s.cacheRoom) : ∃ c, resolve (activeUnits s) s = some { s with cache := c } := by
  unfold State.cacheRoom at h
  unfold resolve Cache.resolve
  cases hl : s.cache.lookup (hashKey (makeKey (activeUnits s) s)) (makeKey (activeUnits s) s) with
  | some e => exact ⟨_, rfl⟩
  | none =>
    have hlt : s.cache.entries.length < s.config.cacheMax := h.resolve_right (by rw [hl]; exact Bool.false_ne_true)
    simp only [if_neg (not_le.mpr hlt)]
    exact ⟨_, rfl⟩

theorem resolve_full {s : State} (h : ¬ s.cacheRoom) : resolve (activeUnits s) s = none := by
  simp only [State.cacheRoom, not_or, not_lt, Bool.not_eq_true, Option.isSome_eq_false_iff, Option.isNone_iff_eq_none] at h
  unfold resolve Cache.resolve
  simp only [h.2, if_pos h.1]

/-- With a reserved draw buffer nothing but the sub-pixel step is done. -/
theorem submitTriangle_reserved {s : State}
    (h : 2 ≤ FbzMode.drawBuffer s.config.constants (s.reg 0 Reg.fbzMode)) : submitTriangle s = done (adjusted s) := by
  rw [← adjusted_drawBuffer] at h
  exact if_pos h

/-- A miss in a full cache is fatal before any pixel (R274). -/
theorem submitTriangle_full {s : State} (h : FbzMode.drawBuffer s.config.constants (s.reg 0 Reg.fbzMode) < 2)
    (hc : ¬ s.cacheRoom) : submitTriangle s = raiseFatal .cacheOverflow (adjusted s) := by
  have hres := resolve_full ((adjusted_cacheRoom s).not.mpr hc)
  rw [(adjusted_same s).activeUnits_eq] at hres
  rw [← adjusted_drawBuffer] at h
  unfold submitTriangle
  simp only [if_neg (not_le.mpr h), hres]

/-- With room in the cache the triangle is drawn, folded and counted (R230, R236). -/
theorem submitTriangle_room {s : State} (h : FbzMode.drawBuffer s.config.constants (s.reg 0 Reg.fbzMode) < 2)
    (hc : s.cacheRoom) : ∃ c, submitTriangle s =
      andThen (rasterize (snapshot (activeUnits s) (adjusted s)) { adjusted s with cache := c })
        fun t => done (countTriangle (foldStats t)) := by
  obtain ⟨c, hres⟩ := resolve_room ((adjusted_cacheRoom s).mpr hc)
  rw [(adjusted_same s).activeUnits_eq] at hres
  rw [← adjusted_drawBuffer] at h
  refine ⟨c, ?_⟩
  unfold submitTriangle
  simp only [if_neg (not_le.mpr h), hres]
  rfl

/-! ## triangleCMD and ftriangleCMD (R149, R150) -/

theorem triangle_rows {p : Nat × (BitVec 4 → Word → Instr)} (hp : p ∈ [(0x20, Instr.triangleCMD), (0x40, .ftriangleCMD)]) :
    p.1 < 256 ∧ p.1 ∈ commandSlots ∧ ∀ k v s, exec (p.2 k v) s = regWrite p.1 .triangle k v s := by
  fin_cases hp <;> exact ⟨by decide, by decide, fun _ _ _ => rfl⟩

/-- Settles O33: without the FBI the row is its store, with a reserved draw buffer its store and the sub-pixel step. -/
theorem triangleCommandsThatDrawNothing : Obligations.TriangleCommandsThatDrawNothing := by
  intro p hp k v s h
  obtain ⟨hn, hslot, hexec⟩ := triangle_rows hp
  rw [hexec]
  refine ⟨fun hsel => regWrite_sets hn h rfl fun r _ => ?_, fun hsel hbuf => ?_⟩
  · simp only [RegEffect.run, selectOf_fbi, hsel]
    rfl
  · have hsets := regWrite_sets (k := k) (v := v) hn h (e := .triangle) rfl (f := (adjusted s).fbi)
      (t0 := (adjusted s).tmu0) (t1 := (adjusted s).tmu1) (d := s.dac) fun r hr => by
        have hm := SameModes.of_slotsBut hslot hr
        have hsub := submitTriangle_reserved (s := { s with regs := r }) (by rw [hm.reg0 (by decide)]; exact hbuf)
        rw [adjusted_setRegs hm, adjusted_eq s] at hsub
        simp only [RegEffect.run, selectOf_fbi, hsel, if_true]
        exact hsub
    exact hsets

/-- Settles O36: the miss raises the fatal state on the sub-pixel step's state, which no operation but RESET leaves. -/
theorem fullCacheStopsTheChipBeforeDrawing : Obligations.FullCacheStopsTheChipBeforeDrawing := by
  intro p hp k v s h hsel hbuf hroom
  obtain ⟨hn, hslot, hexec⟩ := triangle_rows hp
  obtain ⟨r, hr⟩ := stored_isRegs p.1 k v s
  have hslots := stored_slotsBut h.canonical hn k v
  rw [hr] at hslots
  have hm := SameModes.of_slotsBut hslot hslots
  have hrun : exec (p.2 k v) s = raiseFatal .cacheOverflow { adjusted s with regs := r } := by
    rw [hexec, regWrite_run h rfl, hr, ← adjusted_setRegs hm, ← submitTriangle_full]
    · simp only [RegEffect.run, selectOf_fbi, hsel, if_true]
    · rw [hm.reg0 (by decide)]
      exact hbuf
    · rwa [hm.cacheRoom_iff rfl]
  refine ⟨_, hrun, rfl, (adjusted_quiet s).ram, ?_, fun i hi => exec_fatal rfl hi⟩
  exact hm.reg0 (by decide)

/-! ## sDrawTriCMD before it draws (R156, R241, R242) -/

/-- The ring after the vertex is appended does not depend on the commands' slots. -/
theorem appendVertex_setRegs {s : State} {r : Memory 32} (h : SlotsBut 0xA8 s { s with regs := r }) :
    appendVertex { s with regs := r } = { s with regs := r, fbi := Fbi.appended s } := by
  have hmode : State.reg { s with regs := r } 0 Reg.sSetupMode = s.reg 0 Reg.sSetupMode :=
    h 0 _ (by decide) (by decide) (by decide)
  unfold appendVertex Fbi.appended
  rw [capture_slotsBut h (by decide), hmode]
  rfl

/-- The culling test of the model is the test of R242. -/
theorem culled_iff (s : State) : culled s.config.constants (s.reg 0 Reg.sSetupMode) (s.fbi.sverts + 1)
    (floatRecip (setupArea (Fbi.appended s))) = true ↔ s.setupRejected := by
  unfold culled State.setupRejected SetupMode.cull SetupMode.cullSign SetupMode.fan SetupMode.noPingPong bit
  simp only [Bool.and_eq_true, bne_iff_ne, ne_eq]
  refine and_congr_right fun _ => ?_
  generalize (s.reg 0 Reg.sSetupMode).getLsbD 16 = fan
  generalize (s.reg 0 Reg.sSetupMode).getLsbD 19 = noPingPong
  generalize (s.reg 0 Reg.sSetupMode).getLsbD 18 = sign
  generalize (s.fbi.sverts + 1 - s.config.constants.cullParity).getLsbD 0 = parity
  cases fan <;> cases noPingPong <;> cases parity <;> simp

theorem setupGradients_setRegs {s : State} {r : Memory 32}
    (h : State.reg { s with regs := r } 0 Reg.sSetupMode = s.reg 0 Reg.sSetupMode) (f : Fbi) :
    setupGradients { s with regs := r, fbi := f } = { setupGradients (s.setFbi f) with regs := r } := by
  have hmode : State.reg { s with regs := r, fbi := f } 0 Reg.sSetupMode = s.reg 0 Reg.sSetupMode := h
  unfold setupGradients
  rw [hmode]
  rfl

/-- The setup step from three vertices on: culled, or the triangle of `setupDone` (R243). -/
theorem appendStrip_setRegs {s : State} {r : Memory 32} (h : SlotsBut 0xA8 s { s with regs := r })
    (hv : 3 ≤ (s.fbi.sverts + 1).toNat) :
    (s.setupRejected → appendStrip { s with regs := r } =
      done { s with regs := r, fbi := setupVertices s.config.constants.vertexFrac (Fbi.appended s) }) ∧
    (¬ s.setupRejected → appendStrip { s with regs := r } = submitTriangle { s.setupDone with regs := r }) := by
  have hmode : State.reg { s with regs := r } 0 Reg.sSetupMode = s.reg 0 Reg.sSetupMode :=
    h 0 _ (by decide) (by decide) (by decide)
  have hrun : appendStrip { s with regs := r } =
      setupAndDraw { s with regs := r, fbi := Fbi.appended s } := by
    unfold appendStrip
    rw [appendVertex_setRegs h]
    exact if_pos hv
  have hcull : culled s.config.constants (State.reg { s with regs := r } 0 Reg.sSetupMode) (s.fbi.sverts + 1)
      (floatRecip (setupArea (Fbi.appended s))) = true ↔ s.setupRejected := by rw [hmode, culled_iff]
  rw [hrun]
  unfold setupAndDraw
  refine ⟨fun hrej => if_pos (hcull.mpr hrej), fun hrej => (if_neg fun hc => hrej (hcull.mp hc)).trans ?_⟩
  cases hzero : floatIsZero (setupArea (setupVertices s.config.constants.vertexFrac (Fbi.appended s))) with
  | true =>
    rw [show s.setupDone = _ from if_pos hzero]
    exact if_pos hzero
  | false =>
    rw [show s.setupDone = _ from if_neg (by rw [State.setFbi_fbi, hzero]; exact Bool.false_ne_true),
      ← setupGradients_setRegs hmode]
    exact if_neg (by rw [State.setFbi_fbi, hzero]; exact Bool.false_ne_true)

/-- Settles O40: the row is its store and the appended ring, with the vertex registers once three vertices are held. -/
theorem drawCommandAppendsAndCulls : Obligations.DrawCommandAppendsAndCulls := by
  refine ⟨fun k v s h => ⟨fun hsel => ?_, fun hsel hv => ?_, fun hsel hv hrej => ?_⟩, rfl, rfl⟩
  · refine regWrite_sets (by decide) h (e := .setupDraw) rfl fun r hr => ?_
    simp only [RegEffect.run, selectOf_fbi, hsel]
    rfl
  · refine regWrite_sets (by decide) h (e := .setupDraw) rfl fun r hr => ?_
    simp only [RegEffect.run, selectOf_fbi, hsel, if_true]
    unfold appendStrip
    rw [appendVertex_setRegs hr]
    exact if_neg (not_le.mpr hv)
  · refine regWrite_sets (by decide) h (e := .setupDraw) rfl fun r hr => ?_
    simp only [RegEffect.run, selectOf_fbi, hsel, if_true]
    exact (appendStrip_setRegs hr hv).1 hrej

end Sys2Proof.Machine
end

section
/-! SUPPORT. The rasterizer as one pass over the list of covered pixels, top to bottom and left to right (R233): what
the passes keep, what one pass establishes, how many there are. -/

namespace Sys2Proof.Machine

open Sys2Proof

/-! ## A loop over a list -/

/-- `k c` for each member of a list, in its order. -/
def forList {α : Type} (l : List α) (k : α → State → Answer) (s : State) : Answer :=
  match l with
  | [] => .next s
  | c :: l => andThen (k c s) (forList l k)

theorem andThen_assoc (o : Answer) (k l : State → Answer) :
    andThen (andThen o k) l = andThen o fun s => andThen (k s) l := by
  cases o <;> rfl

section

variable {α β : Type}

theorem forList_append (l m : List α) (k : α → State → Answer) (s : State) :
    forList (l ++ m) k s = andThen (forList l k s) (forList m k) := by
  induction l generalizing s with
  | nil => rfl
  | cons c l ih =>
    simp only [List.cons_append, forList, andThen_assoc]
    exact congrArg (andThen _) (funext ih)

theorem forList_map (f : α → β) (l : List α) (k : β → State → Answer) (s : State) :
    forList (l.map f) k s = forList l (fun c => k (f c)) s := by
  induction l generalizing s with
  | nil => rfl
  | cons c l ih => exact congrArg (andThen _) (funext ih)

theorem forList_flatMap (f : α → List β) (l : List α) (k : β → State → Answer) (s : State) :
    forList (l.flatMap f) k s = forList l (fun c => forList (f c) k) s := by
  induction l generalizing s with
  | nil => rfl
  | cons c l ih =>
    rw [List.flatMap_cons, forList_append]
    exact congrArg (andThen _) (funext ih)

theorem forRange_eq_forList (n i : Nat) (k : Nat → State → Answer) (s : State) :
    forRange n i k s = forList (List.range' i n) k s := by
  induction n generalizing i s with
  | zero => rfl
  | succ n ih => exact congrArg (andThen _) (funext (ih (i + 1)))

/-- What every pass that answers keeps, the loop keeps. -/
theorem forList_invariant {P : State → Prop} {k : α → State → Answer} {l : List α}
    (hk : ∀ c ∈ l, ∀ s t, P s → k c s = .next t → P t) {s t : State} (h : P s) (ht : forList l k s = .next t) : P t := by
  induction l generalizing s with
  | nil => cases ht; exact h
  | cons c l ih =>
    obtain ⟨u, hu, hr⟩ := andThen_eq_next ht
    exact ih (fun d hd => hk d (List.mem_cons_of_mem _ hd)) (hk c List.mem_cons_self s u h hu) hr

/-- Where every pass answers a next state, so does the loop. -/
theorem forList_completes {P : State → Prop} {k : α → State → Answer} {l : List α}
    (hk : ∀ c ∈ l, ∀ s, P s → ∃ t, k c s = .next t ∧ P t) {s : State} (h : P s) :
    ∃ t, forList l k s = .next t ∧ P t := by
  induction l generalizing s with
  | nil => exact ⟨s, rfl, h⟩
  | cons c l ih =>
    obtain ⟨u, hu, hp⟩ := hk c List.mem_cons_self s h
    simp only [forList, hu, andThen_next]
    exact ih (fun d hd => hk d (List.mem_cons_of_mem _ hd)) hp

/-- What the pass of one member establishes and the others keep holds after the loop. -/
theorem forList_establishes {P Q : State → Prop} {k : α → State → Answer} {l : List α} (hd : l.Nodup) {c : α}
    (hc : c ∈ l) (hP : ∀ d ∈ l, ∀ s t, P s → k d s = .next t → P t)
    (hest : ∀ s t, P s → k c s = .next t → Q t)
    (hkeep : ∀ d ∈ l, d ≠ c → ∀ s t, P s → Q s → k d s = .next t → Q t) {s t : State} (h : P s)
    (ht : forList l k s = .next t) : Q t := by
  induction l generalizing s with
  | nil => cases hc
  | cons b l ih =>
    obtain ⟨u, hu, hr⟩ := andThen_eq_next ht
    obtain ⟨hb, hd⟩ := List.nodup_cons.mp hd
    have hPu : P u := hP b List.mem_cons_self s u h hu
    have hPl : ∀ d ∈ l, ∀ s t, P s → k d s = .next t → P t := fun d hd => hP d (List.mem_cons_of_mem _ hd)
    rcases List.mem_cons.mp hc with rfl | hcl
    · have hafter : P t ∧ Q t := forList_invariant (P := fun s => P s ∧ Q s)
        (fun d hdl s t hs ht => ⟨hPl d hdl s t hs.1 ht,
          hkeep d (List.mem_cons_of_mem _ hdl) (fun he => hb (he ▸ hdl)) s t hs.1 hs.2 ht⟩) ⟨hPu, hest s u h hu⟩ hr
      exact hafter.2
    · exact ih hd hcl hPl (fun d hdl => hkeep d (List.mem_cons_of_mem _ hdl)) hPu hr

/-- A counter that every pass moves by `v` moves by `v` a member. -/
theorem forList_counts {P : State → Prop} {f : State → Word} {v : Word} {k : α → State → Answer} {l : List α}
    (hk : ∀ c ∈ l, ∀ s t, P s → k c s = .next t → P t ∧ f t = f s + v) {s t : State} (h : P s)
    (ht : forList l k s = .next t) : f t = f s + BitVec.ofNat 32 l.length * v := by
  induction l generalizing s with
  | nil => cases ht; simp
  | cons c l ih =>
    obtain ⟨u, hu, hr⟩ := andThen_eq_next ht
    obtain ⟨hp, hf⟩ := hk c List.mem_cons_self s u h hu
    rw [ih (fun d hd => hk d (List.mem_cons_of_mem _ hd)) hp hr, hf, List.length_cons, BitVec.ofNat_add,
      BitVec.add_mul, BitVec.one_mul, BitVec.add_assoc, BitVec.add_comm v]

end

/-! ## The covered pixels (R233) -/

theorem screenBound_le {v : Int} {a : Nat} : screenBound v ≤ a ∧ a < 1024 ↔ v ≤ a ∧ a < 1024 := by
  unfold screenBound clampInt
  simp only []
  split <;> split <;> omega

theorem lt_screenBound {v : Int} {a : Nat} : a < screenBound v ↔ (a : Int) < v ∧ a < 1024 := by
  unfold screenBound clampInt
  simp only []
  split <;> split <;> omega

/-- The members of a bounded loop. -/
theorem mem_screenRange {v w : Int} {a : Nat} :
    a ∈ List.range' (screenBound v) (screenBound w - screenBound v) ↔ v ≤ a ∧ (a : Int) < w ∧ a < 1024 := by
  have h1 := @screenBound_le v a
  have h2 := @lt_screenBound w a
  rw [List.mem_range'_1]
  omega

/-- The three vertices, topmost first. -/
def Snapshot.sorted (n : Snapshot) : Sorted := sortPoints n.va.point n.vb.point n.vc.point

/-- The covered pixels of row `y`, left to right. -/
def Snapshot.rowCells (n : Snapshot) (y : Nat) : List (Nat × Nat) :=
  (List.range' (screenBound (spanOf n.frac n.sorted y).first)
    (screenBound (spanOf n.frac n.sorted y).stop - screenBound (spanOf n.frac n.sorted y).first)).map fun x => (x, y)

/-- The covered pixels, in the order of the scan. -/
def Snapshot.cells (n : Snapshot) : List (Nat × Nat) :=
  (List.range' (screenBound (rowOf n.frac n.sorted.v0))
    (screenBound (rowOf n.frac n.sorted.v2) - screenBound (rowOf n.frac n.sorted.v0))).flatMap n.rowCells

/-- The rasterizer is one pass over the covered pixels. -/
theorem rasterize_eq_forList (n : Snapshot) (s : State) :
    rasterize n s = forList n.cells (fun c => snapPixel n c.1 c.2) s := by
  have hrow : ∀ y t, rasterRow n n.sorted y t = forList (n.rowCells y) (fun c => snapPixel n c.1 c.2) t := by
    intro y t
    rw [Snapshot.rowCells, forList_map, ← forRange_eq_forList]
    rfl
  have hrows : rasterRow n n.sorted = fun y => forList (n.rowCells y) (fun c => snapPixel n c.1 c.2) :=
    funext fun y => funext (hrow y)
  rw [Snapshot.cells, forList_flatMap, ← forRange_eq_forList, ← hrows]
  rfl

theorem mem_rowCells {n : Snapshot} {y : Nat} {c : Nat × Nat} : c ∈ n.rowCells y ↔
    ((spanOf n.frac n.sorted y).first ≤ c.1 ∧ (c.1 : Int) < (spanOf n.frac n.sorted y).stop ∧ c.1 < 1024) ∧ c.2 = y := by
  obtain ⟨x, y'⟩ := c
  simp only [Snapshot.rowCells, List.mem_map, mem_screenRange, Prod.mk.injEq]
  constructor
  · rintro ⟨x, hx, rfl, rfl⟩
    exact ⟨hx, rfl⟩
  · rintro ⟨hx, rfl⟩
    exact ⟨x, hx, rfl, rfl⟩

theorem mem_cells {n : Snapshot} {c : Nat × Nat} : c ∈ n.cells ↔ n.covers c.1 c.2 := by
  simp only [Snapshot.cells, List.mem_flatMap, mem_screenRange, mem_rowCells, Snapshot.covers, Snapshot.covered,
    Bool.and_eq_true, decide_eq_true_eq]
  constructor
  · rintro ⟨y, ⟨h0, h2, hy⟩, ⟨hfirst, hstop, hx⟩, rfl⟩
    exact ⟨⟨⟨⟨⟨hx, hy⟩, h0⟩, h2⟩, hfirst⟩, hstop⟩
  · rintro ⟨⟨⟨⟨⟨hx, hy⟩, h0⟩, h2⟩, hfirst⟩, hstop⟩
    exact ⟨c.2, ⟨h0, h2, hy⟩, ⟨hfirst, hstop, hx⟩, rfl⟩

theorem cells_nodup (n : Snapshot) : n.cells.Nodup := by
  refine List.nodup_flatMap.mpr ⟨fun y _ => ?_, ?_⟩
  · exact List.Nodup.map (fun a b h => (Prod.mk.inj h).1) List.nodup_range'
  · refine List.Nodup.pairwise_of_forall_ne List.nodup_range' fun y _ y' _ hne => ?_
    intro c hc hc'
    exact hne ((mem_rowCells.mp hc).2.symm.trans (mem_rowCells.mp hc').2)

/-- There are as many passes as covered pixels. -/
theorem cells_length (n : Snapshot) : n.cells.length = n.coveredCount := by
  have hperm : n.cells.Perm ((List.range 1024).flatMap fun y =>
      ((List.range 1024).filter fun x => n.covered x y).map fun x => (x, y)) := by
    refine (List.perm_ext_iff_of_nodup (cells_nodup n) ?_).mpr fun c => ?_
    · refine List.nodup_flatMap.mpr ⟨fun y _ => ?_, ?_⟩
      · exact List.Nodup.map (fun a b h => (Prod.mk.inj h).1) (List.nodup_range.filter _)
      · refine List.Nodup.pairwise_of_forall_ne List.nodup_range fun y _ y' _ hne => ?_
        intro c hc hc'
        simp only [List.mem_map, Prod.ext_iff] at hc hc'
        grind
    · rw [mem_cells]
      obtain ⟨x, y⟩ := c
      simp only [List.mem_flatMap, List.mem_map, List.mem_filter, List.mem_range, Prod.mk.injEq]
      constructor
      · intro h
        have h' := h
        simp only [Snapshot.covers, Snapshot.covered, Bool.and_eq_true, decide_eq_true_eq] at h'
        exact ⟨y, by omega, x, ⟨by omega, h⟩, rfl, rfl⟩
      · rintro ⟨y, -, x, ⟨-, h⟩, rfl, rfl⟩
        exact h
  rw [hperm.length_eq, List.length_flatMap, Snapshot.coveredCount]
  simp only [List.length_map, List.countP_eq_length_filter]

end Sys2Proof.Machine
end

section
/-! SUPPORT. Which pixels complete: the derived tables that a fetch reads are the same through the whole triangle, so a
unit that can sample at the first state can sample at every one (R180, R194, R305, R403). -/

namespace Sys2Proof.Machine

open Sys2Proof

/-! ## The stages outside the texture stage -/

/-- What the stages outside the texture stage leave alone: the units, and the canonical form of the registers. -/
structure KeepsUnits (s t : State) : Prop where
  tmu0 : t.tmu0 = s.tmu0
  tmu1 : t.tmu1 = s.tmu1
  wf : s.regs.wf = true → t.regs.wf = true

namespace KeepsUnits

variable {s t u : State}

theorem refl (s : State) : KeepsUnits s s := ⟨rfl, rfl, id⟩

theorem trans (h1 : KeepsUnits s t) (h2 : KeepsUnits t u) : KeepsUnits s u :=
  ⟨h2.tmu0.trans h1.tmu0, h2.tmu1.trans h1.tmu1, fun h => h2.wf (h1.wf h)⟩

theorem count (k : Counter) (s : State) : KeepsUnits s (count k s) := ⟨rfl, rfl, id⟩

theorem of_draws (h : drawsOnly s t) : KeepsUnits s t := by
  obtain ⟨n, rfl⟩ := h
  exact ⟨rfl, rfl, id⟩

theorem bufferWrite (base : Option Word) (x sy : Nat) (v : Half) (s : State) :
    KeepsUnits s (bufferWrite base x sy v s) := by
  rw [bufferWrite_eq]
  exact ⟨rfl, rfl, id⟩

theorem ite {c : Prop} [Decidable c] (h : KeepsUnits s t) : KeepsUnits s (if c then t else s) := by
  split
  · exact h
  · exact refl s

end KeepsUnits

theorem stippleRotate_units (s : State) : KeepsUnits s (stippleRotate s) :=
  KeepsUnits.ite ⟨rfl, rfl, fun h => State.wf_setReg h _ _ _⟩

theorem pixelFront_units (x y : Nat) (z : Word) (w : DWord) (s : State) : KeepsUnits s (pixelFront x y z w s).2 := by
  have h1 : KeepsUnits s (stippleRotate (count .pixelsIn s)) := (KeepsUnits.count _ s).trans (stippleRotate_units _)
  have h2 := h1.trans (.of_draws (drawsOnly.of_state (depthRead_state (stippleRotate (count .pixelsIn s)) x (screenY s y))))
  unfold pixelFront
  simp only []
  split
  · exact KeepsUnits.refl s
  · split
    · exact h1.trans (KeepsUnits.count _ _)
    · split
      · exact h2
      · exact h2.trans (KeepsUnits.count _ _)

theorem pixelBack_units (base : Option Word) (x y : Nat) (d : Depth) (z : Word) (w : DWord) (ia c : Argb) (s : State) :
    KeepsUnits s (pixelBack base x y d z w ia c s) := by
  have hblend := KeepsUnits.of_draws (alphaBlend_state base x y d.sy (fog s x y d.wf z w ia c) c s)
  exact ((hblend.trans (.ite (.bufferWrite _ _ _ _ _))).trans (.ite (.bufferWrite _ _ _ _ _))).trans (.count _ _)

theorem pixelColour_units (x y : Nat) (d : Depth) (it : PixelIter) (tex : Argb) (s : State) :
    KeepsUnits s (pixelColour x y d it tex s) := by
  unfold pixelColour
  simp only []
  split
  · exact KeepsUnits.count _ _
  · split
    · exact KeepsUnits.count _ _
    · split
      · exact KeepsUnits.count _ _
      · exact pixelBack_units _ _ _ _ _ _ _ _ _

/-! ## The tables of a unit at a fetch (R180) -/

/-- The derived tables that a fetch from unit `u` finds, in an otherwise blank unit. -/
def State.unitTables (s : State) (u : Nat) : Tmu := ((freshUnit u s).tmu u).withTables Tmu.reset

/-- They depend on the configuration, the unit's four registers and its stored tables alone. -/
theorem State.unitTables_congr {s t : State} {u : Nat} (hc : t.config = s.config)
    (hr : ∀ i ∈ texParams, t.texReg u i = s.texReg u i) (ht : (s.tmu u).withTables (t.tmu u) = t.tmu u) :
    t.unitTables u = s.unitTables u := by
  unfold State.unitTables
  rw [freshUnit_tmu, freshUnit_tmu, hc, hr _ (by decide), hr _ (by decide), hr _ (by decide), hr _ (by decide), ← ht]
  have hd : ((s.tmu u).withTables (t.tmu u)).regdirty = (s.tmu u).regdirty := rfl
  rw [hd]
  split <;> rfl

/-- A change of one unit that leaves its stored tables. -/
theorem State.unitTables_setTmu {s : State} {u : Nat} {g : Tmu} (hg : (s.tmu u).withTables g = g) (v : Nat) :
    (s.setTmu u g).unitTables v = s.unitTables v := by
  refine State.unitTables_congr (State.setTmu_config _ _ _) (fun i _ => State.reg_setTmu _ _ _ _ _) ?_
  unfold State.tmu at hg
  unfold State.setTmu State.tmu
  by_cases hu : u = 0
  · simp only [if_pos hu] at hg ⊢
    split
    · exact hg
    · rfl
  · simp only [if_neg hu] at hg ⊢
    split
    · rfl
    · exact hg

theorem freshUnit_config (u : Nat) (s : State) : (freshUnit u s).config = s.config := (freshUnit_keeps u s).config

theorem freshUnit_regs (u : Nat) (s : State) : (freshUnit u s).regs = s.regs := by
  unfold freshUnit recomputeUnit
  split
  · exact State.setTmu_regs _ _ _
  · rfl

theorem freshUnit_tmu_other {u v : Nat} (hu : u < 2) (hv : v < 2) (hne : v ≠ u) (s : State) :
    (freshUnit u s).tmu v = s.tmu v := by
  unfold freshUnit recomputeUnit
  split
  · obtain ⟨rfl, rfl⟩ | ⟨rfl, rfl⟩ : u = 0 ∧ v = 1 ∨ u = 1 ∧ v = 0 := by omega
    · rfl
    · rfl
  · rfl

/-- A second recompute has nothing to do. -/
theorem freshUnit_idem (u : Nat) (s : State) : freshUnit u (freshUnit u s) = freshUnit u s := by
  refine if_neg ?_
  rw [freshUnit_tmu]
  split
  · exact Bool.false_ne_true
  · assumption

theorem freshUnit_unitTables {u v : Nat} (hu : u < 2) (hv : v < 2) (s : State) :
    (freshUnit u s).unitTables v = s.unitTables v := by
  by_cases hne : v = u
  · subst hne
    unfold State.unitTables
    rw [freshUnit_idem]
  · refine State.unitTables_congr (freshUnit_config u s) (fun i _ => ?_) ?_
    · unfold State.texReg State.reg
      rw [freshUnit_regs]
    · rw [freshUnit_tmu_other hu hv hne]
      rfl

/-! ## What the texture stage and a pixel leave of the tables -/

/-- The same registers, and the same tables at the next fetch. -/
structure SameTables (s t : State) : Prop where
  regs : t.regs = s.regs
  tables : ∀ u, u < 2 → t.unitTables u = s.unitTables u

theorem SameTables.trans {s t u : State} (h1 : SameTables s t) (h2 : SameTables t u) : SameTables s u :=
  ⟨h2.regs.trans h1.regs, fun v hv => (h2.tables v hv).trans (h1.tables v hv)⟩

theorem freshUnit_tables {u : Nat} (hu : u < 2) (s : State) : SameTables s (freshUnit u s) :=
  ⟨freshUnit_regs u s, fun _ hv => freshUnit_unitTables hu hv s⟩

theorem texUnit_tables {u x y : Nat} {it : UnitIter} {o c : Argb} {s t : State}
    (h : texUnit u x y it o s = .ok (c, t)) : SameTables s t := by
  unfold texUnit at h
  simp only [] at h
  split at h
  · cases h
  · cases h
    exact ⟨State.setTmu_regs _ _ _, fun v _ => State.unitTables_setTmu (freshTables_withTables _ _ _) v⟩

theorem textureStep_tables {u x y : Nat} {it : UnitIter} {o c : Argb} {s t : State} (hu : u < 2)
    (h : textureStep u x y it o s = .ok (c, t)) : SameTables s t := by
  unfold textureStep at h
  simp only [] at h
  split at h
  · exact (freshUnit_tables hu s).trans (texUnit_tables h)
  · cases h
    exact freshUnit_tables hu s

theorem textureStage_tables {n x y : Nat} {it0 it1 : UnitIter} {c : Argb} {s t : State}
    (h : textureStage n x y it0 it1 s = .ok (c, t)) : SameTables s t := by
  have first : ∀ {c u}, (if 2 ≤ n then textureStep 1 x y it1 { a := 0, r := 0, g := 0, b := 0 } s
      else .ok ({ a := 0, r := 0, g := 0, b := 0 }, s)) = Except.ok (c, u) → SameTables s u := by
    intro c u hu
    split at hu
    · exact textureStep_tables (by decide) hu
    · cases hu
      exact ⟨rfl, fun _ _ => rfl⟩
  unfold textureStage at h
  simp only [] at h
  split at h
  · cases h
  · rename_i hu
    split at h
    · exact (first hu).trans (textureStep_tables (by decide) h)
    · cases h
      exact first hu

/-- The stages outside the texture stage leave the tables. -/
theorem KeepsUnits.unitTables {s t : State} (h : KeepsUnits s t) (hk : DrawKeeps s t) {u : Nat} (hu : u < 2) :
    t.unitTables u = s.unitTables u := by
  refine State.unitTables_congr hk.config (fun i hi => ?_) ?_
  · exact hk.regs _ _ (by omega) (lt_of_mem_texParams hi) fun hp => Nat.succ_ne_zero _ hp.1
  · have htmu : t.tmu u = s.tmu u := by
      unfold State.tmu
      rw [h.tmu0, h.tmu1]
    rw [htmu]
    rfl

/-- What a pixel keeps besides its frame: the tables at the next fetch, the canonical form of the registers. -/
theorem pixel_tables {n x y : Nat} {it : PixelIter} {it0 it1 : UnitIter} {s t : State}
    (h : pixel n x y it it0 it1 s = .next t) :
    (∀ u, u < 2 → t.unitTables u = s.unitTables u) ∧ (s.regs.wf = true → t.regs.wf = true) := by
  have hfront := pixelFront_units x y it.z it.w s
  have kfront := pixelFront_keeps x y it.z it.w s
  unfold pixel at h
  split at h
  · rename_i u e
    cases h
    rw [e] at hfront kfront
    exact ⟨fun v hv => hfront.unitTables kfront hv, hfront.wf⟩
  · rename_i d u e
    rw [e] at hfront kfront
    split at h
    · cases h
    · rename_i tex v hv
      cases h
      have htex := textureStage_tables hv
      have hcol := pixelColour_units x y d it tex v
      exact ⟨fun k hk => (hcol.unitTables (pixelColour_keeps _ _ _ _ _ _) hk).trans
          ((htex.tables k hk).trans (hfront.unitTables kfront hk)),
        fun hw => hcol.wf (by rw [htex.regs]; exact hfront.wf hw)⟩

/-! ## Which fetches complete (R194, R305, R403) -/

/-- A unit with tables `t` stops no pixel here: it is out of the chain, or its level exists and its format has a
lookup. -/
def canSample (c : Config) (t : Tmu) (mode : Word) (x y : Nat) (it : UnitIter) : Prop :=
  t.lodmin.toInt < c.constants.lodOff →
    t.lookup ≠ .none ∧ (texcoord c t mode x y it.s it.t it.w it.lodbase).ilod ≤ 8

/-- The unit of a state stops no pixel here. -/
def State.canSample (s : State) (u x y : Nat) (it : UnitIter) : Prop :=
  Machine.canSample s.config (s.unitTables u) (s.texReg u Reg.textureMode) x y it

/-- A fetch reads the tables of its unit alone. -/
theorem State.canSample_iff (s : State) (u x y : Nat) (it : UnitIter) : s.canSample u x y it ↔
    Machine.canSample s.config ((freshUnit u s).tmu u) (s.texReg u Reg.textureMode) x y it := Iff.rfl

theorem State.canSample_congr {s t : State} {u : Nat} (hc : t.config = s.config)
    (hr : t.texReg u Reg.textureMode = s.texReg u Reg.textureMode) (ht : t.unitTables u = s.unitTables u) {x y : Nat}
    {it : UnitIter} : t.canSample u x y it ↔ s.canSample u x y it := by
  unfold State.canSample
  rw [hc, hr, ht]

theorem SameTables.canSample {s t : State} (h : SameTables s t) (hc : t.config = s.config) {u : Nat} (hu : u < 2)
    {x y : Nat} {it : UnitIter} : t.canSample u x y it ↔ s.canSample u x y it :=
  State.canSample_congr hc (by unfold State.texReg State.reg; rw [h.regs]) (h.tables u hu)

theorem fetchRefusal_none {t : Tmu} {k : TexCoord} (hl : t.lookup ≠ .none) (hk : k.ilod ≤ 8) : fetchRefusal t k = none := by
  unfold fetchRefusal
  rw [if_neg (by omega), if_neg hl]

theorem textureStep_completes {u x y : Nat} {it : UnitIter} {s : State} (h : s.canSample u x y it) (o : Argb) :
    ∃ c t, textureStep u x y it o s = .ok (c, t) := by
  rw [State.canSample_iff] at h
  unfold textureStep
  simp only []
  split
  · rename_i hlod
    rw [freshUnit_config] at hlod
    obtain ⟨hl, hk⟩ := h hlod
    have hmode : (freshUnit u s).texReg u Reg.textureMode = s.texReg u Reg.textureMode := by
      unfold State.texReg State.reg
      rw [freshUnit_regs]
    unfold texUnit
    rw [freshUnit_config, hmode]
    simp only [fetchRefusal_none hl hk]
    exact ⟨_, _, rfl⟩
  · exact ⟨_, _, rfl⟩

theorem textureStage_completes {n x y : Nat} {it0 it1 : UnitIter} {s : State} (h0 : 1 ≤ n → s.canSample 0 x y it0)
    (h1 : 2 ≤ n → s.canSample 1 x y it1) : ∃ c t, textureStage n x y it0 it1 s = .ok (c, t) := by
  unfold textureStage
  simp only []
  by_cases h2 : 2 ≤ n
  · obtain ⟨c, t, hstep⟩ := textureStep_completes (h1 h2) { a := 0, r := 0, g := 0, b := 0 }
    have hsame := textureStep_tables (by decide) hstep
    rw [if_pos h2, hstep]
    simp only [if_pos (show 1 ≤ n by omega)]
    exact textureStep_completes ((hsame.canSample (textureStep_ok hstep).1.config (by decide)).mpr (h0 (by omega))) c
  · rw [if_neg h2]
    simp only []
    split
    · rename_i h
      exact textureStep_completes (h0 h) _
    · exact ⟨_, _, rfl⟩

/-- A pixel completes where every active unit can sample. -/
theorem pixel_completes {n x y : Nat} {it : PixelIter} {it0 it1 : UnitIter} {s : State}
    (h0 : 1 ≤ n → s.canSample 0 x y it0) (h1 : 2 ≤ n → s.canSample 1 x y it1) :
    ∃ t, pixel n x y it it0 it1 s = .next t := by
  have hfront := pixelFront_units x y it.z it.w s
  have kfront := pixelFront_keeps x y it.z it.w s
  unfold pixel
  split
  · exact ⟨_, rfl⟩
  · rename_i d u e
    rw [e] at hfront kfront
    have hsample : ∀ {k it}, k < 2 → s.canSample k x y it → u.canSample k x y it := fun hk h =>
      (State.canSample_congr kfront.config (kfront.regs _ _ (by omega) (by decide) fun hp => Nat.succ_ne_zero _ hp.1)
        (hfront.unitTables kfront hk)).mpr h
    obtain ⟨c, t, hstage⟩ := textureStage_completes (n := n) (fun h => hsample (by decide) (h0 h))
      (fun h => hsample (by decide) (h1 h))
    rw [hstage]
    exact ⟨_, rfl⟩

end Sys2Proof.Machine
end

section
/-! SUPPORT. A triangle from its submission to its count: every pass keeps the frame of the draw, a triangle whose units
can sample completes, and what the command then leaves (R230, R233, R236). -/

namespace Sys2Proof.Machine

open Sys2Proof

/-! ## The plane equation (R234) -/

/-- The iterator wraps at its width as the exact sum does. -/
theorem Grad.iter_eq_plane {w : Nat} (g : Grad w) (dx dy : Int) : g.iter dx dy = g.plane dx dy := by
  simp only [Grad.iter, Grad.plane, BitVec.ofInt_add, BitVec.ofInt_mul, BitVec.ofInt_toInt]

/-- The iterators of unit `u` at pixel (x, y). -/
def Snapshot.unitIter (n : Snapshot) (u x y : Nat) : UnitIter :=
  (n.unit u).iter (x - n.va.x.toInt / 2 ^ n.frac) (y - n.va.y.toInt / 2 ^ n.frac)

theorem snapPixel_eq (n : Snapshot) (x y : Nat) (s : State) :
    snapPixel n x y s = pixel n.texcount x y (n.iterators x y) (n.unitIter 0 x y) (n.unitIter 1 x y) s := by
  unfold snapPixel Snapshot.iterators Snapshot.iter
  simp only [Grad.iter_eq_plane]
  rfl

/-- A unit that can sample the triangle stops none of its pixels. -/
theorem State.unitSamples.canSample {s : State} {n : Snapshot} {u : Nat} (h : s.unitSamples n u) {x y : Nat}
    (hc : n.covers x y) : s.canSample u x y (n.unitIter u x y) := by
  rw [State.canSample_iff]
  intro hlod
  obtain ⟨hl, hlevel⟩ := h hlod
  refine ⟨hl, ?_⟩
  simp only [Snapshot.unitIter, UnitSnapshot.iter, Grad.iter_eq_plane]
  exact hlevel x y hc

/-! ## The passes -/

/-- What every pass of triangle `n` keeps of the state before the first. -/
structure RasterKeeps (n : Snapshot) (s w : State) : Prop where
  keeps : DrawKeeps s w
  tables : ∀ u, u < 2 → w.unitTables u = s.unitTables u
  wf : s.regs.wf = true → w.regs.wf = true
  bytes : ∀ a, (∀ x y, n.covers x y → ¬ pixelByte s.fbi (drawBase s) x (screenY s y) a) →
    w.fbi.ram.read a = s.fbi.ram.read a

namespace RasterKeeps

variable {n : Snapshot} {s w t : State}

theorem refl (n : Snapshot) (s : State) : RasterKeeps n s s := ⟨.refl s, fun _ _ => rfl, id, fun _ _ => rfl⟩

theorem pass (h : RasterKeeps n s w) {x y : Nat} (hc : n.covers x y) (ht : snapPixel n x y w = .next t) :
    RasterKeeps n s t := by
  rw [snapPixel_eq] at ht
  obtain ⟨hkeeps, hbytes⟩ := pixel_next ht
  obtain ⟨htables, hwf⟩ := pixel_tables ht
  refine ⟨h.keeps.trans hkeeps, fun u hu => (htables u hu).trans (h.tables u hu), fun hs => hwf (h.wf hs), fun a ha => ?_⟩
  rw [hbytes a, h.bytes a ha]
  rw [h.keeps.drawBase, h.keeps.screenY, h.keeps.pixelByte]
  exact ha x y hc

theorem canSample (h : RasterKeeps n s w) {u : Nat} (hu : u < 2) {x y : Nat} {it : UnitIter} :
    w.canSample u x y it ↔ s.canSample u x y it :=
  State.canSample_congr h.keeps.config
    (h.keeps.regs _ _ (by omega) (by decide) fun hp => Nat.succ_ne_zero _ hp.1) (h.tables u hu)

end RasterKeeps

/-- A triangle that answers has kept the frame of the draw. -/
theorem rasterize_keeps {n : Snapshot} {s t : State} (ht : rasterize n s = .next t) : RasterKeeps n s t := by
  rw [rasterize_eq_forList] at ht
  exact forList_invariant (P := RasterKeeps n s) (fun c hc w u hw hu => hw.pass (mem_cells.mp hc) hu) (.refl n s) ht

/-- A triangle that every active unit can sample completes. -/
theorem rasterize_completes {n : Snapshot} {s : State}
    (h : ∀ u, u < n.texcount → u < 2 → ∀ x y, n.covers x y → s.canSample u x y (n.unitIter u x y)) :
    ∃ t, rasterize n s = .next t := by
  rw [rasterize_eq_forList]
  have hpass : ∀ c ∈ n.cells, ∀ w, RasterKeeps n s w → ∃ t, snapPixel n c.1 c.2 w = .next t ∧ RasterKeeps n s t := by
    intro c hc w hw
    have hcov := mem_cells.mp hc
    have hsample : ∀ u, u < n.texcount → u < 2 → w.canSample u c.1 c.2 (n.unitIter u c.1 c.2) := fun u hn hu =>
      (hw.canSample hu).mpr (h u hn hu _ _ hcov)
    obtain ⟨t, ht⟩ := pixel_completes (it := n.iterators c.1 c.2) (fun h1 => hsample 0 h1 (by decide))
      (fun h2 => hsample 1 h2 (by decide))
    rw [← snapPixel_eq] at ht
    exact ⟨t, ht, hw.pass hcov ht⟩
  obtain ⟨t, ht, -⟩ := forList_completes hpass (.refl n s)
  exact ⟨t, ht⟩

/-! ## The state that the passes start from -/

/-- The same modes on the same screen: the FBI but for its vertices' gradients. -/
structure SameScreen (s u : State) : Prop extends SameModes s u where
  fbi : u.fbi = { s.fbi with r := u.fbi.r, g := u.fbi.g, b := u.fbi.b, a := u.fbi.a, z := u.fbi.z, w := u.fbi.w }

namespace SameScreen

variable {s u : State}

theorem drawBase_eq (h : SameScreen s u) : drawBase u = drawBase s := by
  unfold drawBase
  rw [h.config, h.reg0 (by decide), h.fbi]
  rfl

theorem screenY_eq (h : SameScreen s u) (y : Nat) : screenY u y = screenY s y := by
  unfold screenY flipY
  rw [h.config, h.reg0 (by decide), h.fbi]

theorem auxoffs (h : SameScreen s u) : u.fbi.auxoffs = s.fbi.auxoffs := (congrArg Fbi.auxoffs h.fbi :)

theorem rowpixels (h : SameScreen s u) : u.fbi.rowpixels = s.fbi.rowpixels := (congrArg Fbi.rowpixels h.fbi :)

theorem ram (h : SameScreen s u) : u.fbi.ram = s.fbi.ram := (congrArg Fbi.ram h.fbi :)

theorem mask (h : SameScreen s u) : u.fbi.mask = s.fbi.mask := (congrArg Fbi.mask h.fbi :)

theorem ownsByte_iff (h : SameScreen s u) (base : Option Word) (x sy a : Nat) :
    ownsByte u.fbi base x sy a ↔ ownsByte s.fbi base x sy a := ownsByte_congr h.rowpixels base x sy a

theorem pixelByte_iff (h : SameScreen s u) (base : Option Word) (x sy a : Nat) :
    pixelByte u.fbi base x sy a ↔ pixelByte s.fbi base x sy a := by
  unfold pixelByte
  rw [h.ownsByte_iff, h.ownsByte_iff, h.auxoffs]

end SameScreen

theorem adjusted_fbi (s : State) : (adjusted s).fbi = { s.fbi with
    r := (adjusted s).fbi.r, g := (adjusted s).fbi.g, b := (adjusted s).fbi.b, a := (adjusted s).fbi.a,
    z := (adjusted s).fbi.z, w := (adjusted s).fbi.w } := by
  unfold adjusted
  split <;> rfl

theorem ite_shifted_withTables {c : Prop} [Decidable c] (k : Nat) (t : Tmu) (dx dy : Int) :
    t.withTables (if c then t.shifted k dx dy else t) = if c then t.shifted k dx dy else t := by
  split <;> rfl

/-- The sub-pixel step leaves the tables of a unit. -/
theorem adjusted_withTables (s : State) (u : Nat) : (s.tmu u).withTables ((adjusted s).tmu u) = (adjusted s).tmu u := by
  unfold adjusted
  split
  · by_cases hu : u = 0
    · simp only [State.tmu, if_pos hu]
      exact ite_shifted_withTables _ _ _ _
    · simp only [State.tmu, if_neg hu]
      exact ite_shifted_withTables _ _ _ _
  · rfl

/-- The state `u` that the store of command `index` leaves, before its triangle `d` is submitted. -/
structure Submitted (index : Nat) (chips : BitVec 4) (value : Word) (d u : State) : Prop where
  command : index ∈ commandSlots
  running : d.fatal = none
  eq : u = { d with regs := u.regs }
  wf : u.regs.wf = true
  slots : ∀ bank i, bank < 4 → i < 256 →
    u.reg bank i = if i = index ∧ selected d.config chips bank = true then value else d.reg bank i

/-- The state in which triangle `d` of command state `u` starts to draw, its cache entry in place. -/
def drawStart (d u : State) (c : Cache) : State := { adjusted d with regs := u.regs, cache := c }

namespace Submitted

variable {index : Nat} {chips : BitVec 4} {value : Word} {d u w : State}

theorem slots_other (h : Submitted index chips value d u) {bank i : Nat} (hb : bank < 4) (hi : i < 256)
    (hne : ¬ isSlot d.config chips index bank i) : u.reg bank i = d.reg bank i := by
  rw [h.slots bank i hb hi]
  exact if_neg hne

theorem modes (h : Submitted index chips value d u) : SameModes d u where
  config := (congrArg State.config h.eq :)
  reg := fun _ _ hb hi hn => h.slots_other hb hi fun hs => hn (hs.1 ▸ h.command)

theorem adjusted_eq (h : Submitted index chips value d u) : adjusted u = { adjusted d with regs := u.regs } := by
  have hm : SameModes d { d with regs := u.regs } := h.eq ▸ h.modes
  conv_lhs => rw [h.eq]
  exact adjusted_setRegs hm

theorem snapshot_eq (h : Submitted index chips value d u) :
    snapshot (activeUnits u) (adjusted u) = snapshot (activeUnits d) (adjusted d) := by
  rw [h.modes.activeUnits_eq, h.adjusted_eq]
  rfl

/-- Drawing starts on the same screen. -/
theorem screen (h : Submitted index chips value d u) (c : Cache) : SameScreen d (drawStart d u c) where
  config := (adjusted_same d).config
  reg := h.modes.reg
  fbi := adjusted_fbi d

theorem canSample_start (h : Submitted index chips value d u) (c : Cache) {k : Nat} (hk : k < 2) {x y : Nat}
    {it : UnitIter} : (drawStart d u c).canSample k x y it ↔ d.canSample k x y it := by
  have hs := (h.screen c).toSameModes
  exact State.canSample_congr hs.config (hs.texReg hk (by decide)) (State.unitTables_congr hs.config
    (fun i hi => hs.texReg hk (by revert i; decide)) (adjusted_withTables d k))

/-- The registers that a finished triangle leaves (R236). -/
theorem reg_counted (h : Submitted index chips value d u) {c : Cache} {n : Snapshot}
    (hw : RasterKeeps n (drawStart d u c) w) {bank i : Nat} (hb : bank < 4) (hi : i < 256)
    (hp : ¬ pipelineRegister bank i) :
    (countTriangle (foldStats w)).reg bank i =
      if bank = 0 ∧ i = Reg.fbiTrianglesOut then d.reg 0 Reg.fbiTrianglesOut + 1 else u.reg bank i := by
  have hkeeps : DrawKeeps (drawStart d u c) (foldStats w) := hw.keeps.trans (.foldStats w)
  have hcount : (foldStats w).reg 0 Reg.fbiTrianglesOut = d.reg 0 Reg.fbiTrianglesOut :=
    (hkeeps.reg0 (by decide) (by decide) (by decide)).trans (h.modes.reg0 (by decide))
  have hkeep : (foldStats w).reg bank i = u.reg bank i := hkeeps.regs bank i hb hi hp
  rw [countTriangle, State.reg_setReg (foldStats_wf (hw.wf h.wf)) _ _ _ _ (by decide) hi, hcount, hkeep]

/-- The frame of a finished triangle. -/
theorem drawn (h : Submitted index chips value d u) {c : Cache}
    (hw : RasterKeeps (snapshot (activeUnits d) (adjusted d)) (drawStart d u c) w) :
    TriangleDrawn index chips value d { countTriangle (foldStats w) with result := none } := by
  have hkeeps : DrawKeeps (drawStart d u c) (foldStats w) := hw.keeps.trans (.foldStats w)
  have hscreen := h.screen c
  have hquiet := congrArg State.fatal (Machine.adjusted_eq d)
  have hcommand : ∀ i ∈ commandSlots, i < 256 ∧ i ≠ Reg.fbiTrianglesOut ∧ ∀ bank, ¬ pipelineRegister bank i := by
    intro i hi
    fin_cases hi <;> exact ⟨by decide, by decide, fun bank hp => absurd hp.2 (by decide)⟩
  obtain ⟨hlt, hne, hpipe⟩ := hcommand index h.command
  exact {
    result := rfl
    running := hkeeps.fatal.trans (hquiet.trans h.running)
    config := hkeeps.config.trans (adjusted_quiet d).config
    initEnable := hkeeps.initEnable.trans (adjusted_quiet d).initEnable
    pciFifoSize := hkeeps.pciFifoSize.trans (adjusted_quiet d).pciFifoSize
    dac := hkeeps.dac.trans (congrArg State.dac (Machine.adjusted_eq d) :)
    pending := hkeeps.pending.trans (adjusted_quiet d).pending
    slot := fun bank hb hsel => by
      refine (h.reg_counted hw hb hlt (hpipe bank)).trans ?_
      rw [if_neg fun e => hne e.2, h.slots bank index hb hlt, if_pos ⟨rfl, hsel⟩]
    counted := (h.reg_counted hw (by decide) (by decide) fun hp => absurd hp.2 (by decide)).trans
      (if_pos ⟨rfl, rfl⟩)
    regs := fun bank i hb hi hp hcnt hs => by
      refine (h.reg_counted hw hb hi hp).trans ?_
      rw [if_neg hcnt, h.slots_other hb hi hs]
    fbi := hkeeps.fbi
    tmu0 := hkeeps.tmu0
    tmu1 := hkeeps.tmu1
    bytes := fun a ha => by
      refine (hw.bytes a fun x y hc => ?_).trans (by rw [hscreen.ram])
      rw [hscreen.drawBase_eq, hscreen.screenY_eq, hscreen.pixelByte_iff]
      exact ha x y hc }

/-- A submitted triangle with room in the cache whose units can sample completes. -/
theorem completes (h : Submitted index chips value d u)
    (hbuf : FbzMode.drawBuffer d.config.constants (d.reg 0 Reg.fbzMode) < 2) (hroom : d.cacheRoom)
    (hs : ∀ k, k < activeUnits d → d.unitSamples (snapshot (activeUnits d) (adjusted d)) k) :
    ∃ c w, rasterize (snapshot (activeUnits d) (adjusted d)) (drawStart d u c) = .next w ∧
      submitTriangle u = .next { countTriangle (foldStats w) with result := none } := by
  have hcache : u.cache = d.cache := (congrArg State.cache h.eq :)
  obtain ⟨c, hsubmit⟩ := submitTriangle_room (s := u) (by rw [h.modes.config, h.modes.reg0 (by decide)]; exact hbuf)
    ((h.modes.cacheRoom_iff hcache).mpr hroom)
  obtain ⟨w, hw⟩ := rasterize_completes (n := snapshot (activeUnits d) (adjusted d)) (s := drawStart d u c)
    fun k hk h2 x y hc => (h.canSample_start c h2).mpr ((hs k hk).canSample hc)
  refine ⟨c, w, hw, ?_⟩
  rw [hsubmit, h.snapshot_eq, h.adjusted_eq]
  exact congrArg (andThen · _) hw

end Submitted

end Sys2Proof.Machine
end

section
/-! SUPPORT. An untextured triangle with every optional stage off: the two words and the two counts of each pixel
(R290, R339, R340, R352). -/

namespace Sys2Proof.Machine

open Sys2Proof

/-! ## One pixel -/

/-- A buffer write that a mask lets through. -/
def maskedWrite (on : Bool) (base : Option Word) (x sy : Nat) (v : Half) (w : State) : State :=
  if on = true then bufferWrite base x sy v w else w

theorem maskedWrite_stats (on : Bool) (base : Option Word) (x sy : Nat) (v : Half) (w : State) :
    (maskedWrite on base x sy v w).stats = w.stats := by
  unfold maskedWrite
  split
  · rw [bufferWrite_eq]
  · rfl

theorem FillFrame.maskedWrite {s w : State} (h : FillFrame s w) (on : Bool) (base : Option Word) (x sy : Nat) (v : Half) :
    FillFrame s (maskedWrite on base x sy v w) := by
  unfold Machine.maskedWrite
  split
  · exact h.write _ _ _ _
  · exact h

theorem FillFrame.maskedWrite_read {s w : State} (h : FillFrame s w) {on : Bool} {base : Option Word} {x sy a : Nat}
    {v : Half} (ha : on = true → ¬ ownsByte s.fbi base x sy a) :
    (Machine.maskedWrite on base x sy v w).fbi.ram.read a = w.fbi.ram.read a := by
  unfold Machine.maskedWrite
  split
  · rename_i hon
    exact bufferWrite_read_other ((h.ownsByte_iff _ _ _ _).not.mpr (ha hon))
  · rfl

/-- The word that a pixel inside RAM has just written. -/
theorem FillFrame.maskedWrite_word {s w : State} (h : FillFrame s w) {b : Word} {x y : Nat} (v : Half)
    (hfit : pixelFits s b x y) :
    fbWord (pixelAddress s b x y) (Machine.maskedWrite true (some b) x (screenY s y) v w).fbi = v := by
  have hoff : pixelOffset w.fbi x (screenY s y) = pixelOffset s.fbi x (screenY s y) := by rw [h.fbi_eq]; rfl
  have hm : w.fbi.mask = s.fbi.mask := (congrArg Fbi.mask h.fbi_eq :)
  unfold Machine.maskedWrite pixelAddress
  rw [if_pos rfl, ← hoff]
  exact bufferWrite_word h.wf _ (by rw [hoff, hm]; exact hfit)

/-- Pixel (x, y) with iterators `it` drawn in `w`, under the modes of `s`. -/
def plainPixel (s : State) (x y : Nat) (it : PixelIter) (w : State) : State :=
  count .pixelsOut
    (maskedWrite (FbzMode.auxBufferMask (s.reg 0 Reg.fbzMode)) s.fbi.auxoffs x (screenY s y) (plainAuxWord s it)
      (maskedWrite (FbzMode.rgbBufferMask (s.reg 0 Reg.fbzMode)) (drawBase s) x (screenY s y) (plainColourWord s x y it)
        (count .pixelsIn w)))

/-! ### Stages that are off -/

section

variable {s : State}

theorem clipPass_off (h : FbzMode.enableClipping (s.reg 0 Reg.fbzMode) = false) (x sy : Nat) : clipPass s x sy = true := by
  simp [clipPass, h]

theorem stippleRotate_off (h : FbzMode.enableStipple (s.reg 0 Reg.fbzMode) = false) : stippleRotate s = s := by
  simp [stippleRotate, h]

theorem stipplePass_off (h : FbzMode.enableStipple (s.reg 0 Reg.fbzMode) = false) (x y : Nat) :
    stipplePass s x y = true := by
  simp [stipplePass, h]

theorem depthRead_off (h : FbzMode.enableDepthbuf (s.reg 0 Reg.fbzMode) = false) (x sy : Nat) :
    depthRead s x sy = (none, s) := by
  simp [depthRead, h]

theorem depthPass_off (h : FbzMode.enableDepthbuf (s.reg 0 Reg.fbzMode) = false) (dv : Nat) (o : Option Half) :
    depthPass s dv o = true := by
  simp [depthPass, h]

theorem chromaPass_off (h : FbzMode.enableChromakey (s.reg 0 Reg.fbzMode) = false) (c : Argb) : chromaPass s c = true := by
  simp [chromaPass, h]

theorem alphaMaskPass_off (h : FbzMode.enableAlphaMask (s.reg 0 Reg.fbzMode) = false) (a : Int) :
    alphaMaskPass s a = true := by
  simp [alphaMaskPass, h]

theorem alphaPass_off (h : AlphaMode.test (s.reg 0 Reg.alphaMode) = false) (a : Int) : alphaPass s a = true := by
  simp [alphaPass, h]

theorem fog_off (h : FogMode.enable (s.reg 0 Reg.fogMode) = false) (x y wf : Nat) (z : Word) (w : DWord) (ia c : Argb) :
    fog s x y wf z w ia c = c := by
  simp [fog, h]

theorem alphaBlend_off (h : AlphaMode.blend (s.reg 0 Reg.alphaMode) = false) (base : Option Word) (x y sy : Nat)
    (c before : Argb) : alphaBlend base x y sy c before s = (c, s) := by
  simp [alphaBlend, h]

end

namespace PlainPipeline

variable {s : State}

theorem counted (h : PlainPipeline s) (k : Counter) : PlainPipeline (count k s) := ⟨h.1, h.2, h.3, h.4, h.5, h.6, h.7, h.8⟩

/-- The front passes the pixel, which it counts in (R290). -/
theorem pixelFront_eq (h : PlainPipeline s) (x y : Nat) (z : Word) (w : DWord) : pixelFront x y z w s =
    (some { sy := screenY s y, wf := wfloat s.config.constants w, dv := depthValue s z (wfloat s.config.constants w) },
      count .pixelsIn s) := by
  have hc := h.counted .pixelsIn
  unfold pixelFront
  simp only [clipPass_off h.clip, stippleRotate_off hc.stipple, stipplePass_off hc.stipple, depthRead_off hc.depth,
    depthPass_off hc.depth, Bool.not_true, if_true]
  rfl

/-- No test rejects the pixel, whose colour is written as it was combined (R322–R340). -/
theorem pixelColour_eq (h : PlainPipeline s) (x y : Nat) (d : Depth) (it : PixelIter) :
    pixelColour x y d it { a := 0, r := 0, g := 0, b := 0 } s =
      count .pixelsOut (writeOut (drawBase s) x y d (plainColour s it) s) := by
  unfold pixelColour pixelBack
  simp only [chromaPass_off h.chroma, alphaMaskPass_off h.alphaMask, alphaPass_off h.alphaTest, fog_off h.fog,
    alphaBlend_off h.blend, Bool.not_true]
  rfl

end PlainPipeline

theorem writeOut_eq (base : Option Word) (x y : Nat) (d : Depth) (c : Argb) (s : State) : writeOut base x y d c s =
    maskedWrite (FbzMode.auxBufferMask (s.reg 0 Reg.fbzMode)) s.fbi.auxoffs x d.sy
      (if FbzMode.enableAlphaPlanes (s.reg 0 Reg.fbzMode) then BitVec.ofInt 16 c.a else BitVec.ofNat 16 d.dv)
      (maskedWrite (FbzMode.rgbBufferMask (s.reg 0 Reg.fbzMode)) base x d.sy
        (dither565 s.config.constants (s.reg 0 Reg.fbzMode) c.r.toNat c.g.toNat c.b.toNat x y) s) := by
  have haux := (ite_bufferWrite_fbi (FbzMode.rgbBufferMask (s.reg 0 Reg.fbzMode)) base x d.sy
    (dither565 s.config.constants (s.reg 0 Reg.fbzMode) c.r.toNat c.g.toNat c.b.toNat x y) s).1
  unfold writeOut maskedWrite
  simp only [haux]

/-- A pixel of an untextured triangle under the plain pipeline. -/
theorem pixel_plain {s : State} (h : PlainPipeline s) (x y : Nat) (it : PixelIter) (it0 it1 : UnitIter) :
    pixel 0 x y it it0 it1 s = .next (plainPixel s x y it s) := by
  unfold pixel
  rw [h.pixelFront_eq]
  simp only [textureStage_zero, (h.counted _).pixelColour_eq, writeOut_eq]
  rfl

/-! ## A pixel in the middle of the triangle -/

namespace FillFrame

variable {s w : State}

theorem plain (h : FillFrame s w) (hp : PlainPipeline s) : PlainPipeline w := by
  rw [h.eq]
  exact ⟨hp.1, hp.2, hp.3, hp.4, hp.5, hp.6, hp.7, hp.8⟩

theorem plainPixel (h : FillFrame s w) (x y : Nat) (it : PixelIter) : FillFrame s (plainPixel s x y it w) :=
  ((((h.setStats _).maskedWrite _ _ _ _ _).maskedWrite _ _ _ _ _).setStats _)

/-- The modes of the middle of a triangle are those of its start. -/
theorem pixel_eq (h : FillFrame s w) (hp : PlainPipeline s) (x y : Nat) (it : PixelIter) (it0 it1 : UnitIter) :
    Machine.pixel 0 x y it it0 it1 w = .next (Machine.plainPixel s x y it w) := by
  have hmodes : Machine.plainPixel w x y it = Machine.plainPixel s x y it := by
    conv_lhs => rw [h.eq]
    rfl
  rw [pixel_plain (h.plain hp), hmodes]

theorem plainPixel_read (h : FillFrame s w) {x y a : Nat} {it : PixelIter} (ha : ¬ fillTouches s x y a) :
    (Machine.plainPixel s x y it w).fbi.ram.read a = w.fbi.ram.read a := by
  simp only [fillTouches, not_or, not_and] at ha
  have hin : FillFrame s (count .pixelsIn w) := h.setStats _
  exact ((hin.maskedWrite _ _ _ _ _).maskedWrite_read ha.2).trans (hin.maskedWrite_read ha.1)

/-- The pixel's own colour word, where its aux word lies apart. -/
theorem plainPixel_colour (h : FillFrame s w) {b : Word} {x y : Nat} (it : PixelIter)
    (hmask : FbzMode.rgbBufferMask (s.reg 0 Reg.fbzMode) = true) (hbase : drawBase s = some b)
    (hfit : pixelFits s b x y)
    (hapart : FbzMode.auxBufferMask (s.reg 0 Reg.fbzMode) = true → ∀ a,
      ownsByte s.fbi (drawBase s) x (screenY s y) a → ¬ ownsByte s.fbi s.fbi.auxoffs x (screenY s y) a) :
    fbWord (pixelAddress s b x y) (Machine.plainPixel s x y it w).fbi = plainColourWord s x y it := by
  have hin : FillFrame s (count .pixelsIn w) := h.setStats _
  have hcol := hin.maskedWrite true (some b) x (screenY s y) (plainColourWord s x y it)
  have hown : ∀ a, a = pixelAddress s b x y ∨ a = pixelAddress s b x y + 1 →
      ownsByte s.fbi (drawBase s) x (screenY s y) a := fun a ha => by rw [hbase]; exact ha
  unfold Machine.plainPixel
  rw [hmask, hbase]
  refine (fbWord_of_sameWord ⟨hcol.maskedWrite_read ?_, hcol.maskedWrite_read ?_⟩).trans (hin.maskedWrite_word _ hfit)
  · exact fun haux => hapart haux _ (hown _ (.inl rfl))
  · exact fun haux => hapart haux _ (hown _ (.inr rfl))

/-- The pixel's own aux word. -/
theorem plainPixel_aux (h : FillFrame s w) {b : Word} {x y : Nat} (it : PixelIter)
    (hmask : FbzMode.auxBufferMask (s.reg 0 Reg.fbzMode) = true) (hbase : s.fbi.auxoffs = some b)
    (hfit : pixelFits s b x y) :
    fbWord (pixelAddress s b x y) (Machine.plainPixel s x y it w).fbi = plainAuxWord s it := by
  have hin : FillFrame s (count .pixelsIn w) := h.setStats _
  unfold Machine.plainPixel
  rw [hmask, hbase]
  exact (hin.maskedWrite _ _ _ _ _).maskedWrite_word _ hfit

end FillFrame

theorem plainPixel_stats (s : State) (x y : Nat) (it : PixelIter) (w : State) :
    (plainPixel s x y it w).stats = (w.stats.add .pixelsIn 1).add .pixelsOut 1 := by
  unfold plainPixel
  rw [count, State.setStats_stats, maskedWrite_stats, maskedWrite_stats]
  rfl

/-! ## The triangle -/

section

variable {n : Snapshot} {s t : State}

theorem snapPixel_plain (hn : n.texcount = 0) (hp : PlainPipeline s) {w : State} (hw : FillFrame s w) (x y : Nat) :
    snapPixel n x y w = .next (plainPixel s x y (n.iterators x y) w) := by
  rw [snapPixel_eq, hn, hw.pixel_eq hp]

theorem snapPixel_frame (hn : n.texcount = 0) (hp : PlainPipeline s) {w u : State} (hw : FillFrame s w) {x y : Nat}
    (hu : snapPixel n x y w = .next u) : FillFrame s u := by
  rw [snapPixel_plain hn hp hw] at hu
  cases hu
  exact hw.plainPixel x y _

theorem rasterize_frame (hn : n.texcount = 0) (hp : PlainPipeline s) (hram : s.fbi.ram.wf = true)
    (ht : rasterize n s = .next t) : FillFrame s t := by
  rw [rasterize_eq_forList] at ht
  exact forList_invariant (P := FillFrame s) (fun c _ w u hw hu => snapPixel_frame hn hp hw hu) (.refl hram) ht

/-- A word that its own pixel gives a value, and that no other covered pixel touches, holds the value. -/
theorem rasterize_word (hn : n.texcount = 0) (hp : PlainPipeline s) (hram : s.fbi.ram.wf = true)
    (ht : rasterize n s = .next t) {x y a : Nat} {v : Half} (hc : n.covers x y)
    (hown : ∀ w, FillFrame s w → fbWord a (plainPixel s x y (n.iterators x y) w).fbi = v)
    (hother : ∀ x' y', n.covers x' y' → ¬(x' = x ∧ y' = y) →
      ¬ fillTouches s x' y' a ∧ ¬ fillTouches s x' y' (a + 1)) : fbWord a t.fbi = v := by
  rw [rasterize_eq_forList] at ht
  refine forList_establishes (P := FillFrame s) (Q := fun w => fbWord a w.fbi = v) (c := (x, y)) (cells_nodup n)
    (mem_cells.mpr hc) (fun c _ w u hw hu => snapPixel_frame hn hp hw hu) (fun w u hw hu => ?_)
    (fun c hc hne w u hw hv hu => ?_) (.refl hram) ht
  · rw [snapPixel_plain hn hp hw] at hu
    cases hu
    exact hown w hw
  · obtain ⟨h1, h2⟩ := hother c.1 c.2 (mem_cells.mp hc) fun e => hne (Prod.ext e.1 e.2)
    rw [snapPixel_plain hn hp hw] at hu
    cases hu
    rw [fbWord_of_sameWord ⟨hw.plainPixel_read h1, hw.plainPixel_read h2⟩, hv]

/-- Every covered pixel inside RAM holds its colour word. -/
theorem rasterize_colour (hn : n.texcount = 0) (hp : PlainPipeline s) (hram : s.fbi.ram.wf = true)
    (ht : rasterize n s = .next t) (hmask : FbzMode.rgbBufferMask (s.reg 0 Reg.fbzMode) = true)
    (hapart : FbzMode.auxBufferMask (s.reg 0 Reg.fbzMode) = true → wordsApart s (drawBase s) n.covers)
    (hpitch : ∀ x y, n.covers x y → x < s.fbi.rowpixels.toNat) (hrows : rowsApart s n.covers) {b : Word} {x y : Nat}
    (hbase : drawBase s = some b) (hc : n.covers x y) (hfit : pixelFits s b x y) :
    fbWord (pixelAddress s b x y) t.fbi = plainColourWord s x y (n.iterators x y) := by
  refine rasterize_word hn hp hram ht hc (fun w hw => hw.plainPixel_colour _ hmask hbase hfit fun haux a ho ho' =>
    hapart haux x y x y a hc hc ⟨ho, ho'⟩) fun x' y' hc' hne => ?_
  have hfree : ∀ a, ownsByte s.fbi (drawBase s) x (screenY s y) a → ¬ fillTouches s x' y' a := by
    rintro a ho (⟨-, ho'⟩ | ⟨haux, ho'⟩)
    · obtain ⟨hx, hsy⟩ := ownsByte_unique (hpitch _ _ hc') (hpitch _ _ hc) ho' ho
      exact hne ⟨hx, hrows _ _ _ _ hc' hc hsy⟩
    · exact hapart haux x y x' y' a hc hc' ⟨ho, ho'⟩
  exact ⟨hfree _ (by rw [hbase]; exact .inl rfl), hfree _ (by rw [hbase]; exact .inr rfl)⟩

/-- Every covered pixel inside RAM holds its aux word. -/
theorem rasterize_aux (hn : n.texcount = 0) (hp : PlainPipeline s) (hram : s.fbi.ram.wf = true)
    (ht : rasterize n s = .next t) (hmask : FbzMode.auxBufferMask (s.reg 0 Reg.fbzMode) = true)
    (hapart : FbzMode.rgbBufferMask (s.reg 0 Reg.fbzMode) = true → wordsApart s (drawBase s) n.covers)
    (hpitch : ∀ x y, n.covers x y → x < s.fbi.rowpixels.toNat) (hrows : rowsApart s n.covers) {b : Word} {x y : Nat}
    (hbase : s.fbi.auxoffs = some b) (hc : n.covers x y) (hfit : pixelFits s b x y) :
    fbWord (pixelAddress s b x y) t.fbi = plainAuxWord s (n.iterators x y) := by
  refine rasterize_word hn hp hram ht hc (fun w hw => hw.plainPixel_aux _ hmask hbase hfit) fun x' y' hc' hne => ?_
  have hfree : ∀ a, ownsByte s.fbi s.fbi.auxoffs x (screenY s y) a → ¬ fillTouches s x' y' a := by
    rintro a ho (⟨hrgb, ho'⟩ | ⟨-, ho'⟩)
    · exact hapart hrgb x' y' x y a hc' hc ⟨ho', ho⟩
    · obtain ⟨hx, hsy⟩ := ownsByte_unique (hpitch _ _ hc') (hpitch _ _ hc) ho' ho
      exact hne ⟨hx, hrows _ _ _ _ hc' hc hsy⟩
  exact ⟨hfree _ (by rw [hbase]; exact .inl rfl), hfree _ (by rw [hbase]; exact .inr rfl)⟩

/-- Each covered pixel is counted in and out, and nothing else is counted. -/
theorem rasterize_stats (hn : n.texcount = 0) (hp : PlainPipeline s) (hram : s.fbi.ram.wf = true)
    (ht : rasterize n s = .next t) :
    t.stats = (s.stats.add .pixelsIn (BitVec.ofNat 32 n.coveredCount)).add .pixelsOut (BitVec.ofNat 32 n.coveredCount) := by
  rw [rasterize_eq_forList] at ht
  have hpass : ∀ c ∈ n.cells, ∀ w u, FillFrame s w → snapPixel n c.1 c.2 w = .next u →
      FillFrame s u ∧ u.stats = (w.stats.add .pixelsIn 1).add .pixelsOut 1 := by
    intro c _ w u hw hu
    refine ⟨snapPixel_frame hn hp hw hu, ?_⟩
    rw [snapPixel_plain hn hp hw] at hu
    cases hu
    exact plainPixel_stats _ _ _ _ _
  have hin := forList_counts (f := fun w => w.stats.pixelsIn) (v := 1#32) (fun c hc w u hw hu =>
    ⟨(hpass c hc w u hw hu).1, by rw [(hpass c hc w u hw hu).2]; rfl⟩) (.refl hram) ht
  have hout := forList_counts (f := fun w => w.stats.pixelsOut) (v := 1#32) (fun c hc w u hw hu =>
    ⟨(hpass c hc w u hw hu).1, by rw [(hpass c hc w u hw hu).2]; rfl⟩) (.refl hram) ht
  have hrest := forList_invariant (P := fun w => FillFrame s w ∧
    w.stats = { s.stats with pixelsIn := w.stats.pixelsIn, pixelsOut := w.stats.pixelsOut }) (fun c hc w u hw hu =>
      ⟨(hpass c hc w u hw.1 hu).1, by rw [(hpass c hc w u hw.1 hu).2, hw.2]; rfl⟩) ⟨.refl hram, rfl⟩ ht
  rw [hrest.2, hin, hout, cells_length, BitVec.mul_one]
  simp only [Stats.add]

end

end Sys2Proof.Machine
end

section
/-! SUPPORT. The triangle commands as the draw of what they submit: triangleCMD and ftriangleCMD of the state they find,
sDrawTriCMD of the setup step's state (O32, O41). -/

namespace Sys2Proof.Machine

open Sys2Proof

/-! ## What an untextured triangle leaves, folded and counted (R236, R290, R352) -/

/-- The triangle counter is none of the pixel counters. -/
theorem countTriangle_totals (s : State) :
    (countTriangle s).pixelsInTotal = s.pixelsInTotal ∧ (countTriangle s).pixelsOutTotal = s.pixelsOutTotal ∧
      (countTriangle s).chromaFailTotal = s.chromaFailTotal ∧ (countTriangle s).zfuncFailTotal = s.zfuncFailTotal ∧
      (countTriangle s).afuncFailTotal = s.afuncFailTotal := by
  have hreg : ∀ i, i < 256 → i ≠ Reg.fbiTrianglesOut → (countTriangle s).reg 0 i = s.reg 0 i := fun i hi hne =>
    State.reg_setReg_ne s (by decide) hi hne _
  refine ⟨?_, ?_, ?_, ?_, ?_⟩ <;> exact congrArg (· + _) (hreg _ (by decide) (by decide))

/-- The plain triangle of the state that its passes start from. -/
theorem rasterize_plainTriangle {n : Snapshot} {s w : State} (hn : n.texcount = 0) (hp : PlainPipeline s)
    (hram : s.fbi.ram.wf = true) (hregs : s.regs.wf = true) (hw : rasterize n s = .next w) :
    PlainTriangle n s { countTriangle (foldStats w) with result := none } := by
  have hframe := rasterize_frame hn hp hram hw
  have hstats := rasterize_stats hn hp hram hw
  have hsame : w.regs = s.regs := (congrArg State.regs hframe.eq :)
  have hreg : ∀ i, w.reg 0 i = s.reg 0 i := fun i => by unfold State.reg; rw [hsame]
  obtain ⟨cin, cout, cchroma, cz, ca⟩ := countTriangle_totals (foldStats w)
  obtain ⟨fin, fchroma, fz, fa, fout⟩ := foldStats_totals (s := w) (by rw [hsame]; exact hregs)
  exact {
    colour := fun hmask hapart hpitch hrows b x y hb hc hfit =>
      rasterize_colour hn hp hram hw hmask hapart hpitch hrows hb hc hfit
    aux := fun hmask hapart hpitch hrows b x y hb hc hfit =>
      rasterize_aux hn hp hram hw hmask hapart hpitch hrows hb hc hfit
    pixelsIn := by
      refine (cin.trans fin).trans ?_
      simp only [State.pixelsInTotal, hreg, hstats, Stats.add, BitVec.add_assoc]
    pixelsOut := by
      refine (cout.trans fout).trans ?_
      simp only [State.pixelsOutTotal, hreg, hstats, Stats.add, BitVec.add_assoc]
    chromaFail := by
      refine (cchroma.trans fchroma).trans ?_
      simp only [State.chromaFailTotal, hreg, hstats, Stats.add]
    zfuncFail := by
      refine (cz.trans fz).trans ?_
      simp only [State.zfuncFailTotal, hreg, hstats, Stats.add]
    afuncFail := by
      refine (ca.trans fa).trans ?_
      simp only [State.afuncFailTotal, hreg, hstats, Stats.add]
    stippleCount := by
      rw [show (countTriangle (foldStats w)).stats.stippleCount = w.stats.stippleCount from rfl, hstats]
      simp only [Stats.add]
    stipple := by
      refine (State.reg_setReg_ne _ (by decide) (by decide) (by decide) _).trans ?_
      rw [foldStats_reg_other (by decide) (by decide), hreg] }

namespace SameScreen

variable {s u : State}

theorem plainPipeline (h : SameScreen s u) (hp : PlainPipeline s) : PlainPipeline u := by
  have hfbz : u.reg 0 Reg.fbzMode = s.reg 0 Reg.fbzMode := h.reg0 (by decide)
  have halpha : u.reg 0 Reg.alphaMode = s.reg 0 Reg.alphaMode := h.reg0 (by decide)
  have hfog : u.reg 0 Reg.fogMode = s.reg 0 Reg.fogMode := h.reg0 (by decide)
  constructor
  · rw [hfbz, hp.clip]
  · rw [hfbz, hp.stipple]
  · rw [hfbz, hp.depth]
  · rw [hfbz, hp.chroma]
  · rw [hfbz, hp.alphaMask]
  · rw [halpha, hp.alphaTest]
  · rw [halpha, hp.blend]
  · rw [hfog, hp.fog]

theorem plainColour_eq (h : SameScreen s u) (it : PixelIter) : plainColour u it = plainColour s it := by
  simp (disch := decide) only [plainColour, colourLocal, localAlpha, wrapIterators, h.config, h.isV2, h.reg0]

theorem plainColourWord_eq (h : SameScreen s u) (x y : Nat) (it : PixelIter) :
    plainColourWord u x y it = plainColourWord s x y it := by
  simp (disch := decide) only [plainColourWord, h.plainColour_eq, h.config, h.reg0]

theorem plainAuxWord_eq (h : SameScreen s u) (it : PixelIter) : plainAuxWord u it = plainAuxWord s it := by
  simp (disch := decide) only [plainAuxWord, depthValue, rawDepth, wrapIterators, h.plainColour_eq, h.config, h.isV2,
    h.reg0]

theorem wordsApart_iff (h : SameScreen s u) (base : Option Word) (inside : Nat → Nat → Prop) :
    wordsApart u base inside ↔ wordsApart s base inside := by
  simp only [wordsApart, h.screenY_eq, h.ownsByte_iff, h.auxoffs]

theorem rowsApart_iff (h : SameScreen s u) (inside : Nat → Nat → Prop) : rowsApart u inside ↔ rowsApart s inside := by
  simp only [rowsApart, h.screenY_eq]

theorem pixelOffset_eq (h : SameScreen s u) (x sy : Nat) : pixelOffset u.fbi x sy = pixelOffset s.fbi x sy := by
  unfold pixelOffset
  rw [h.rowpixels]

theorem pixelFits_iff (h : SameScreen s u) (b : Word) (x y : Nat) : pixelFits u b x y ↔ pixelFits s b x y := by
  simp only [pixelFits, h.screenY_eq, h.pixelOffset_eq, h.mask]

theorem pixelWord_eq (h : SameScreen s u) (t : State) (b : Word) (x y : Nat) :
    pixelWord u t b x y = pixelWord s t b x y := by
  simp only [pixelWord, h.screenY_eq, h.pixelOffset_eq]

/-- A plain triangle is the same triangle of any state with the same screen and the same counts. -/
theorem plainTriangle (h : SameScreen s u) (hstats : u.stats = s.stats) {n : Snapshot} {t : State}
    (ht : PlainTriangle n u t) : PlainTriangle n s t := by
  have hfbz : u.reg 0 Reg.fbzMode = s.reg 0 Reg.fbzMode := h.reg0 (by decide)
  exact {
    colour := by
      simpa only [hfbz, h.wordsApart_iff, h.rowsApart_iff, h.pixelFits_iff, h.pixelWord_eq, h.drawBase_eq, h.rowpixels,
        h.plainColourWord_eq] using ht.colour
    aux := by
      simpa only [hfbz, h.wordsApart_iff, h.rowsApart_iff, h.pixelFits_iff, h.pixelWord_eq, h.drawBase_eq, h.rowpixels,
        h.auxoffs, h.plainAuxWord_eq] using ht.aux
    pixelsIn := by
      rw [ht.pixelsIn, State.pixelsInTotal, hstats, h.reg0 (by decide)]
      rfl
    pixelsOut := by
      rw [ht.pixelsOut, State.pixelsOutTotal, hstats, h.reg0 (by decide)]
      rfl
    chromaFail := by
      rw [ht.chromaFail, State.chromaFailTotal, hstats, h.reg0 (by decide)]
      rfl
    zfuncFail := by
      rw [ht.zfuncFail, State.zfuncFailTotal, hstats, h.reg0 (by decide)]
      rfl
    afuncFail := by
      rw [ht.afuncFail, State.afuncFailTotal, hstats, h.reg0 (by decide)]
      rfl
    stippleCount := ht.stippleCount.trans (congrArg Stats.stippleCount hstats)
    stipple := ht.stipple.trans (h.reg0 (by decide)) }

end SameScreen

/-- A submitted triangle with a buffer to draw to, room in the cache and units that can sample is drawn. -/
theorem Submitted.draws {index : Nat} {chips : BitVec 4} {value : Word} {d u : State}
    (h : Submitted index chips value d u) (hbuf : FbzMode.drawBuffer d.config.constants (d.reg 0 Reg.fbzMode) < 2)
    (hroom : d.cacheRoom)
    (hs : ∀ k, k < activeUnits d → d.unitSamples (snapshot (activeUnits d) (adjusted d)) k) :
    ∃ t, submitTriangle u = .next t ∧ TriangleDrawn index chips value d t ∧
      (PlainPipeline d → activeUnits d = 0 → d.fbi.ram.wf = true →
        PlainTriangle (snapshot (activeUnits d) (adjusted d)) d t) := by
  obtain ⟨c, w, hraster, hsubmit⟩ := h.completes hbuf hroom hs
  refine ⟨_, hsubmit, h.drawn (rasterize_keeps hraster), fun hp hzero hram => ?_⟩
  have hscreen := h.screen c
  have hstats : (drawStart d u c).stats = d.stats := (congrArg State.stats (Machine.adjusted_eq d) :)
  exact hscreen.plainTriangle hstats
    (rasterize_plainTriangle hzero (hscreen.plainPipeline hp) (by rw [hscreen.ram]; exact hram) h.wf hraster)

/-! ## Units that can sample every triangle (R180–R188, R194) -/

/-- A fresh unit is found with the tables that its registers give. -/
theorem freshUnit_tmu_of_fresh {s : State} {u : Nat} (h : s.unitFresh u) : (freshUnit u s).tmu u =
    recomputeFrom s.config (s.texReg u Reg.textureMode) (s.texReg u Reg.tLOD) (s.texReg u Reg.tDetail)
      (s.texReg u Reg.texBaseAddr) (s.tmu u) := by
  rw [freshUnit_tmu]
  split
  · rfl
  · rename_i hclean
    exact ((s.unitFresh_iff u).mp h |>.resolve_left hclean).symm

/-- The formats without a lookup are the two reserved ones, and 6 under V1 (R185). -/
theorem lookupTables_none : ∀ v2 nccSelect : Bool, ∀ format < 16, (lookupTables v2 nccSelect).getD format .none = .none →
    format = 7 ∨ format = 15 ∨ (format = 6 ∧ v2 = false) := by
  decide

theorem texMode_format_lt (v : Word) : TexMode.format .standard v < 16 := by
  have hrun : TexMode.format .standard v = field v 8 4 := readField_run _ _ v
  rw [hrun]
  exact field_lt v 8 4

/-- Registers that let no fetch be refused, under the stated constants. -/
theorem unitSamples_of_registers {s : State} {n : Snapshot} {u : Nat} (hk : s.config.constants = .standard)
    (hfresh : s.unitFresh u) (h : s.registersSample u) : s.unitSamples n u := by
  obtain ⟨hsplit, hmax, h7, h15, h6⟩ := h
  rw [hk] at hmax h7 h15 h6
  unfold State.unitSamples
  rw [freshUnit_tmu_of_fresh hfresh]
  refine fun _ => ⟨?_, fun x y _ => texcoord_level_le _ _ _ _ _ _ _ _ (by rw [hk]; rfl) ?_ ?_⟩
  · intro hnone
    have hnone : (lookupTables s.isV2 (TexMode.nccSelect (s.texReg u Reg.textureMode))).getD
        (TexMode.format s.config.constants (s.texReg u Reg.textureMode)) .none = .none := hnone
    rw [hk] at hnone
    obtain e | e | ⟨e, hv1⟩ := lookupTables_none _ _ _ (texMode_format_lt _) hnone
    · exact h7 e
    · exact h15 e
    · rw [h6 e] at hv1
      exact Bool.noConfusion hv1
  · show lodMaskOf (s.texReg u Reg.tLOD) = 0x1FF
    unfold lodMaskOf
    rw [hsplit]
    rfl
  · show (BitVec.ofNat 32 (TLod.lodmax s.config.constants (s.texReg u Reg.tLOD) <<< s.config.constants.lodShift)).toInt <
      9 * 2 ^ 8
    rw [hk, show Constants.standard.lodShift = 6 from rfl, Nat.shiftLeft_eq, BitVec.toInt_ofNat', Int.bmod_eq_of_le] <;> omega

/-! ## The commands -/

/-- Settles O32: the command submits the state it finds, with its own slot stored. -/
theorem triangleCommandsDrawTheirPixels : Obligations.TriangleCommandsDrawTheirPixels := by
  refine ⟨fun p hp k v s h hsel hbuf hroom hs => ?_, fun s n u _ hk hfresh hregs =>
    unitSamples_of_registers hk hfresh hregs, rfl, rfl⟩
  obtain ⟨hn, hslot, hexec⟩ := triangle_rows hp
  have hsub : Submitted p.1 k v s (stored p.1 k v s) := {
    command := hslot
    running := h.running
    eq := by obtain ⟨r, hr⟩ := stored_isRegs p.1 k v s; rw [hr]
    wf := stored_wf h.canonical _ _ _
    slots := fun bank i hb hi => stored_reg h.canonical hn k v hb hi }
  have hrun : exec (p.2 k v) s = submitTriangle (stored p.1 k v s) := by
    rw [hexec, regWrite_run h rfl]
    simp only [RegEffect.run, selectOf_fbi, hsel, if_true]
  rw [hrun]
  exact hsub.draws hbuf hroom hs

/-- The setup step changes the FBI and the units alone. -/
theorem setupDone_eq (s : State) : s.setupDone =
    { s with fbi := s.setupDone.fbi, tmu0 := s.setupDone.tmu0, tmu1 := s.setupDone.tmu1 } := by
  unfold State.setupDone
  simp only []
  split <;> rfl

/-- The state that sDrawTriCMD submits: the setup step's, with the command's slot stored. -/
def setupStored (k : BitVec 4) (v : Word) (s : State) : State :=
  { s.setupDone with regs := (stored 0xA8 k v s).regs }

/-- sDrawTriCMD from three vertices on, not culled, submits that state. -/
theorem exec_sDrawTriCMD {s : State} (h : Accepts s 0xA8) (k : BitVec 4) (v : Word) (hsel : selected s.config k 0 = true)
    (hv : 3 ≤ (s.fbi.sverts + 1).toNat) (hrej : ¬ s.setupRejected) : exec (.sDrawTriCMD k v) s =
      submitTriangle (setupStored k v s) := by
  have hslots := stored_slotsBut h.canonical (n := 0xA8) (by decide) k v
  rw [stored_eq] at hslots
  have hrun : exec (.sDrawTriCMD k v) s = appendStrip (stored 0xA8 k v s) := by
    refine (regWrite_run h (e := .setupDraw) rfl k).trans ?_
    simp only [RegEffect.run, selectOf_fbi, hsel, if_true]
  rw [hrun, stored_eq]
  exact (appendStrip_setRegs hslots hv).2 hrej

theorem setupDone_submitted {s : State} (h : Accepts s 0xA8) (k : BitVec 4) (v : Word) :
    Submitted 0xA8 k v s.setupDone (setupStored k v s) where
  command := by decide
  running := (congrArg State.fatal (setupDone_eq s)).trans h.running
  eq := rfl
  wf := stored_wf h.canonical _ _ _
  slots := fun bank i hb hi => by
    rw [setupDone_eq]
    exact stored_reg h.canonical (by decide) k v hb hi

/-- Settles O41: the command submits the setup step's state, with its own slot stored. -/
theorem setupDrawIsTheClassicDraw : Obligations.SetupDrawIsTheClassicDraw := by
  refine ⟨fun k v s h hsel hv hrej => ?_, rfl⟩
  have hsub := setupDone_submitted h k v
  have hmode : FbzMode.drawBuffer s.setupDone.config.constants (s.setupDone.reg 0 Reg.fbzMode) =
      FbzMode.drawBuffer s.config.constants (s.reg 0 Reg.fbzMode) := by
    rw [setupDone_eq]
    rfl
  rw [exec_sDrawTriCMD h k v hsel hv hrej]
  refine ⟨⟨setupStored k v s, rfl, fun bank i hb hi => stored_reg h.canonical (by decide) k v hb hi, rfl⟩,
    fun hbuf => ?_, fun hbuf hroom hs => hsub.draws (by rw [hmode]; exact hbuf) hroom hs⟩
  have hreserved := submitTriangle_reserved (s := setupStored k v s)
    (by rw [hsub.modes.config, hsub.modes.reg0 (by decide), hmode]; exact hbuf)
  rw [hsub.adjusted_eq] at hreserved
  exact ⟨_, hreserved, stores_of_regs h.canonical (by decide) rfl rfl, rfl⟩

end Sys2Proof.Machine
end

section
/-! SUPPORT. What a unit derives from its registers: the NCC entries and the recomputed tables; an upload with direct
writes on (R181–R189, R193; O20, O23, O50). -/

namespace Sys2Proof.Machine

open Sys2Proof

/-! ## Direct texture writes (R193) -/

/-- Settles O50: a present unit with direct writes on meets the refusal before its LOD is looked at. -/
theorem directTextureWriteIsRefused : Obligations.DirectTextureWriteIsRefused := by
  intro offset v s hf hv2 hpresent hdirect
  have hexec : exec (.texWr offset v) s = textureUpload offset v s := unlessFatal_none (k := textureUpload offset v) hf
  have hrefuse : (s.isV2 && TLod.directWrite (s.texReg (field offset 19 2) Reg.tLOD)) = true := by
    rw [hv2, Bool.true_and]
    exact hdirect
  rw [hexec]
  unfold textureUpload
  simp only []
  rw [if_neg (Nat.not_le.mpr hpresent), if_pos hrefuse]

/-! ## The NCC rebuild (R189) -/

theorem freshNcc_of_clean {n : Ncc} (h : n.dirty = false) (c : Constants) : freshNcc c n = n := by
  rw [freshNcc, h, if_neg Bool.false_ne_true]

theorem freshNcc_of_dirty {n : Ncc} (h : n.dirty = true) (c : Constants) :
    freshNcc c n = { n with texel := Memory.tabulate 256 (nccEntry c n), dirty := false } := by
  rw [freshNcc, if_pos h]

/-- The parts of an entry's number, by division. -/
theorem nccEntry_eq (c : Constants) (n : Ncc) (k : Nat) : nccEntry c n k =
    let y := n.y.read (k / 2 ^ c.tables.entryY % 16)
    let i := k / 2 ^ c.tables.entryI % 4
    let q := k / 2 ^ c.tables.entryQ % 4
    packArgb c.expand.solid.toNat (nccChannel y (n.ir.read i) (n.qr.read q)) (nccChannel y (n.ig.read i) (n.qg.read q))
      (nccChannel y (n.ib.read i) (n.qb.read q)) := by
  simp only [nccEntry, Nat.shiftRight_eq_div_pow]

/-- Settles O20: the rebuilt entries are a table of `nccEntry`, whose channels are the clamped sums. -/
theorem nccRebuildGivesEveryEntry : Obligations.NccRebuildGivesEveryEntry := by
  refine ⟨fun c n => ⟨fun hclean => freshNcc_of_clean hclean c, fun hdirty => ⟨?_, freshNcc_program c n, ?_⟩⟩,
    rfl, rfl, rfl, rfl⟩
  · rw [freshNcc_of_dirty hdirty]
  · intro k hk
    have hread : (freshNcc c n).texel.read k = nccEntry c n k := by
      rw [freshNcc_of_dirty hdirty, Memory.read_tabulate, if_pos hk]
    exact hread.trans (nccEntry_eq c n k)

/-! ## The derived tables (R181–R188) -/

theorem lodMaskOf_eq (tlod : Word) : lodMaskOf tlod =
    if bit tlod 19 = false then 0x1FF else if bit tlod 18 = false then 0x155 else 0x0AA := by
  simp only [lodMaskOf, TLod.tsplit, TLod.odd, Bool.not_eq_true']

/-- A byte shifted right is its quotient. -/
theorem ushiftRight_eq_ofNat_div (m : Byte) (n : Nat) : m >>> n = BitVec.ofNat 8 (m.toNat / 2 ^ n) := by
  rw [← Nat.shiftRight_eq_div_pow, ← BitVec.toNat_ushiftRight, BitVec.ofNat_toNat, BitVec.setWidth_eq]

theorem widthMaskOf_eq (k : Constants) (tlod : Word) : widthMaskOf k tlod =
    if bit tlod 20 = true then k.lodZeroMask
    else BitVec.ofNat 8 (k.lodZeroMask.toNat / 2 ^ readField k.fields.tLod.aspect tlod) := by
  rw [← ushiftRight_eq_ofNat_div]
  rfl

theorem heightMaskOf_eq (k : Constants) (tlod : Word) : heightMaskOf k tlod =
    if bit tlod 20 = true then BitVec.ofNat 8 (k.lodZeroMask.toNat / 2 ^ readField k.fields.tLod.aspect tlod)
    else k.lodZeroMask := by
  rw [← ushiftRight_eq_ofNat_div]
  rfl

theorem biasWord_eq (b : BiasSteps) (n : Nat) :
    biasWord b n = BitVec.ofInt 32 (sext b.width (n * 2 ^ b.align) * 2 ^ b.shift) := by
  rw [biasWord, Nat.shiftLeft_eq]

theorem levelSize_eq (c : Config) (wmask hmask : Byte) (lod : Nat) : levelSize c wmask hmask lod =
    let size := (wmask.toNat / 2 ^ lod + 1) * (hmask.toNat / 2 ^ lod + 1)
    if c.constants.lodMinFrom ≤ lod ∧ size < c.lodMinSize then c.lodMinSize else size := by
  simp only [levelSize, Nat.shiftRight_eq_div_pow]

/-- A level starts at the base plus the bytes of the present levels below it. -/
theorem levelBase_eq_sum (c : Config) (bppShift base : Nat) (lodmask : BitVec 9) (wmask hmask : Byte) (lod : Nat) :
    levelBase c bppShift base lodmask wmask hmask lod =
      base + (((List.range lod).filter fun l => bit lodmask l).map fun l =>
        levelSize c wmask hmask l * 2 ^ bppShift).sum := by
  induction lod with
  | zero => rfl
  | succ lod ih =>
    rw [levelBase, ih, Nat.shiftLeft_eq, List.range_succ, List.filter_append, List.map_append, List.sum_append,
      Nat.add_assoc]
    cases hbit : bit lodmask lod <;> simp [hbit]

theorem recomputeFrom_lodoffset (c : Config) (mode tlod tdetail base : Word) (t : Tmu) {lod : Nat} (h : lod < 9) :
    (recomputeFrom c mode tlod tdetail base t).lodoffset.read lod = BitVec.ofNat 32
      (levelBase c (TexMode.format c.constants mode / 8)
        ((base.toNat &&& c.constants.texBaseMask) * 2 ^ c.constants.texBaseShift)
        (lodMaskOf tlod) (widthMaskOf c.constants tlod) (heightMaskOf c.constants tlod) lod &&& t.mask.toNat) := by
  simp only [recomputeFrom, Memory.read_tabulate, if_pos h, Nat.shiftLeft_eq, Nat.shiftRight_eq_div_pow]

/-- A field without its top bit, and that bit. -/
theorem field_succ (v : Word) (lo n : Nat) : field v lo (n + 1) = field v lo n + 2 ^ n * field v (lo + n) 1 := by
  rw [field, field, field, Nat.pow_one, Nat.pow_succ, Nat.mod_mul, Nat.shiftRight_add, Nat.shiftRight_eq_div_pow _ n]

/-- A 6-bit field in the upper bits of a byte, sign-extended, is four times the signed field. -/
theorem sext_aligned_field (v : Word) (lo : Nat) :
    sext 8 (field v lo 6 * 2 ^ 2) = ((field v lo 5 : Int) - 32 * field v (lo + 5) 1) * 4 := by
  have hsplit : field v lo 6 = field v lo 5 + 32 * field v (lo + 5) 1 := field_succ v lo 5
  have hlow : field v lo 5 < 32 := field_lt v lo 5
  have htop : field v (lo + 5) 1 < 2 := field_lt v (lo + 5) 1
  rw [hsplit, sext]
  split <;> omega

/-- Settles O23: `recomputeFrom` table by table, each shift a product or a quotient. -/
theorem recomputeDerivesTheTables : Obligations.RecomputeDerivesTheTables := by
  refine ⟨fun u s _ => ?_, fun c bppShift base lodmask wmask hmask lod => ?_, sext_aligned_field, fun v => ?_,
    rfl, rfl, rfl, rfl, rfl, rfl, rfl⟩
  · have hunit : (recomputeUnit u s).tmu u = _ := State.setTmu_tmu _ _ _
    simp only [hunit]
    refine ⟨rfl, rfl, ?_, ?_, biasWord_eq _ _, lodMaskOf_eq _, widthMaskOf_eq _ _, heightMaskOf_eq _ _,
      fun lod hlod => ?_, ?_, rfl, rfl, biasWord_eq _ _, rfl⟩
    · exact congrArg (BitVec.ofNat 32) (Nat.shiftLeft_eq _ _)
    · exact congrArg (BitVec.ofNat 32) (Nat.shiftLeft_eq _ _)
    · exact recomputeFrom_lodoffset _ _ _ _ _ _ hlod
    · simp only [recomputeFrom, lookupTables, decide_eq_true_eq]
      rfl
  · rw [levelBase_eq_sum]
    simp only [levelSize_eq]
  · have hrun : ∀ low width, readField (.run low width) v = field v low width := fun _ _ => readField_run _ _ v
    exact ⟨hrun .., hrun .., hrun .., hrun .., hrun .., hrun .., hrun .., hrun ..⟩

end Sys2Proof.Machine
end

section
/-! SUPPORT. The packed bilinear filter lane by lane: what `lerp2` leaves in each of its two lanes (R199; O51). -/

namespace Sys2Proof.Machine

open Sys2Proof

/-- Floor interpolation of one channel by `f` of 256. -/
def lerpFloor (a b : Int) (f : Nat) : Int := a + (b - a) * f / 256

/-- Interpolation between two bytes stays a byte. -/
theorem lerpFloor_byte {a b : Int} {f : Nat} (ha : 0 ≤ a ∧ a < 256) (hb : 0 ≤ b ∧ b < 256) (hf : f < 256) :
    0 ≤ lerpFloor a b f ∧ lerpFloor a b f < 256 := by
  have hlow : -a * 256 ≤ (b - a) * f := by nlinarith
  have hhigh : (b - a) * f < (256 - a) * 256 := by nlinarith
  unfold lerpFloor
  omega

/-! ## The lanes of a word -/

theorem field_eq_of_bits {v w : Word} {l m n : Nat} (h : ∀ j < n, bit v (l + j) = bit w (m + j)) :
    field v l n = field w m n := by
  refine Nat.eq_of_testBit_eq fun j => ?_
  rw [testBit_field, testBit_field]
  by_cases hj : j < n
  · rw [h j hj]
  · rw [decide_eq_false hj, Bool.false_and, Bool.false_and]

theorem field_ushiftRight (v : Word) (n l m : Nat) : field (v >>> n) l m = field v (l + n) m := by
  rw [field, field, BitVec.toNat_ushiftRight, ← Nat.shiftRight_add, Nat.add_comm]

/-- The even lanes of a word as a number. -/
theorem toNat_and_evenLanes (v : Word) : (v &&& 0x00FF00FF).toNat = 2 ^ 16 * field v 16 8 + field v 0 8 := by
  refine Nat.eq_of_testBit_eq fun i => ?_
  have hlow : field v 0 8 < 2 ^ 16 := (field_lt v 0 8).trans (by decide)
  have hmask : (0x00FF00FF : Word).toNat = 2 ^ 16 * (2 ^ 8 - 1) + (2 ^ 8 - 1) := rfl
  rw [BitVec.toNat_and, Nat.testBit_and, hmask, Nat.testBit_two_pow_mul_add _ (by decide),
    Nat.testBit_two_pow_mul_add _ hlow]
  split
  · rw [testBit_field, Nat.testBit_two_pow_sub_one, Nat.zero_add, Bool.and_comm]
    rfl
  · rename_i hi
    rw [testBit_field, Nat.testBit_two_pow_sub_one, Nat.add_sub_cancel' (Nat.le_of_not_lt hi), Bool.and_comm]
    rfl

/-- The packed difference times `f`, as an integer modulo the word. -/
theorem sub_mul_ofNat (a b : Word) (f : Nat) :
    (b - a) * BitVec.ofNat 32 f = BitVec.ofInt 32 (((b.toNat : Int) - a.toNat) * f) := by
  rw [BitVec.ofInt_mul, Int.sub_eq_add_neg, BitVec.ofInt_add, BitVec.ofInt_neg, BitVec.ofInt_natCast,
    BitVec.ofInt_natCast, BitVec.ofInt_natCast, BitVec.ofNat_toNat, BitVec.ofNat_toNat, BitVec.setWidth_eq,
    BitVec.setWidth_eq, BitVec.sub_eq_add_neg]

/-- Two packed sums that stay bytes keep to their lanes, whatever the fractions of their steps carry. -/
theorem lanes_of_packed {x y : Nat} {p q : Int} (hx : 0 ≤ x + p / 256 ∧ x + p / 256 < 256)
    (hy : 0 ≤ y + q / 256 ∧ y + q / 256 < 256) :
    let n := (2 ^ 16 * y + x + ((2 ^ 16 * q + p) % 2 ^ 32).toNat / 2 ^ 8) % 2 ^ 32
    ((n / 2 ^ 0 % 2 ^ 8 : Nat) : Int) = x + p / 256 ∧ ((n / 2 ^ 16 % 2 ^ 8 : Nat) : Int) = y + q / 256 := by
  omega

/-- Each even lane of `lerp2` is the interpolation of that lane, whatever stands in the other. -/
theorem field_lerp2 (a b : Word) {f : Nat} (hf : f < 256) {l : Nat} (hl : l = 0 ∨ l = 16) :
    (field (lerp2 8 a b f) l 8 : Int) = lerpFloor (field a l 8) (field b l 8) f := by
  have hbyte : ∀ v : Word, ∀ m, (0 : Int) ≤ field v m 8 ∧ (field v m 8 : Int) < 256 := fun v m =>
    ⟨Int.natCast_nonneg _, Int.ofNat_lt.mpr (field_lt v m 8)⟩
  have hlow := lerpFloor_byte (hbyte a 0) (hbyte b 0) hf
  have hhigh := lerpFloor_byte (hbyte a 16) (hbyte b 16) hf
  have hword : (lerp2 8 a b f).toNat = (2 ^ 16 * field a 16 8 + field a 0 8 +
      ((2 ^ 16 * ((field b 16 8 - field a 16 8 : Int) * f) + (field b 0 8 - field a 0 8) * f) % 2 ^ 32).toNat /
        2 ^ 8) % 2 ^ 32 := by
    rw [lerp2, sub_mul_ofNat, BitVec.toNat_add, BitVec.toNat_ushiftRight, BitVec.toNat_ofInt,
      toNat_and_evenLanes, toNat_and_evenLanes, Nat.shiftRight_eq_div_pow]
    push_cast
    ring_nf
  rw [field, hword, Nat.shiftRight_eq_div_pow]
  obtain ⟨heven, hodd⟩ := lanes_of_packed hlow hhigh
  obtain rfl | rfl := hl
  · exact heven
  · exact hodd

theorem field_lerp2_twice (c00 c01 c10 c11 : Word) {fs ft : Nat} (hs : fs < 256) (ht : ft < 256) {l : Nat}
    (hl : l = 0 ∨ l = 16) :
    (field (lerp2 8 (lerp2 8 c00 c01 fs) (lerp2 8 c10 c11 fs) ft) l 8 : Int) =
      lerpFloor (lerpFloor (field c00 l 8) (field c01 l 8) fs) (lerpFloor (field c10 l 8) (field c11 l 8) fs) ft := by
  rw [field_lerp2 _ _ ht hl, field_lerp2 _ _ hs hl, field_lerp2 _ _ hs hl]

/-- The even lanes of two words in one: those of `y` in place, those of `x` one lane up. -/
def interleave (x y : Word) : Word := ((x <<< 8) &&& 0xFF00FF00) ||| (y &&& 0x00FF00FF)

theorem bit_laneMasks : ∀ i < 32, bit (0xFF00FF00 : Word) i = !decide (i % 16 < 8) ∧
    bit (0x00FF00FF : Word) i = decide (i % 16 < 8) := by decide

theorem bit_interleave (x y : Word) {i : Nat} (hi : i < 32) :
    bit (interleave x y) i = if i % 16 < 8 then bit y i else bit x (i - 8) := by
  obtain ⟨hodd, heven⟩ := bit_laneMasks i hi
  unfold bit at *
  rw [interleave, BitVec.getLsbD_or, BitVec.getLsbD_and, BitVec.getLsbD_and, BitVec.getLsbD_shiftLeft, hodd, heven]
  split
  · rename_i hlane
    simp [hlane]
  · rename_i hlane
    have hup : 8 ≤ i := by omega
    simp [hlane, hi, hup]

theorem field_interleave_even (x y : Word) {l : Nat} (hl : l = 0 ∨ l = 16) :
    field (interleave x y) l 8 = field y l 8 :=
  field_eq_of_bits fun j hj => by rw [bit_interleave x y (by omega), if_pos (by omega)]

theorem field_interleave_odd (x y : Word) {l : Nat} (hl : l = 0 ∨ l = 16) :
    field (interleave x y) (l + 8) 8 = field x l 8 :=
  field_eq_of_bits fun j hj => by
    rw [bit_interleave x y (by omega), if_neg (by omega), show l + 8 + j - 8 = l + j by omega]

/-! ## The filter (R199) -/

/-- The filter interpolates the odd lanes, one lane down, apart from the even ones. -/
theorem bilinear_eq_interleave (c00 c01 c10 c11 : Word) (fs ft : Nat) : bilinear 8 c00 c01 c10 c11 fs ft =
    interleave
      (lerp2 8 (lerp2 8 (c00 >>> 8) (c01 >>> 8) fs) (lerp2 8 (c10 >>> 8) (c11 >>> 8) fs) ft)
      (lerp2 8 (lerp2 8 c00 c01 fs) (lerp2 8 c10 c11 fs) ft) := rfl

/-- Settles O51: the even lanes are those of the unshifted words, the odd ones those of the shifted words. -/
theorem bilinearIsPerChannelFloorInterpolation : Obligations.BilinearIsPerChannelFloorInterpolation := by
  intro c00 c01 c10 c11 fs ft hs ht l hl
  have heven : ∀ {m}, m = 0 ∨ m = 16 → (field (bilinear 8 c00 c01 c10 c11 fs ft) m 8 : Int) =
      lerpFloor (lerpFloor (field c00 m 8) (field c01 m 8) fs) (lerpFloor (field c10 m 8) (field c11 m 8) fs) ft := by
    intro m hm
    rw [bilinear_eq_interleave, field_interleave_even _ _ hm, field_lerp2_twice _ _ _ _ hs ht hm]
  have hodd : ∀ {m}, m = 0 ∨ m = 16 → (field (bilinear 8 c00 c01 c10 c11 fs ft) (m + 8) 8 : Int) =
      lerpFloor (lerpFloor (field c00 (m + 8) 8) (field c01 (m + 8) 8) fs)
        (lerpFloor (field c10 (m + 8) 8) (field c11 (m + 8) 8) fs) ft := by
    intro m hm
    rw [bilinear_eq_interleave, field_interleave_odd _ _ hm, field_lerp2_twice _ _ _ _ hs ht hm]
    simp only [field_ushiftRight]
  simp only [List.mem_cons, List.not_mem_nil, or_false] at hl
  obtain rfl | rfl | rfl | rfl := hl
  · exact heven (.inl rfl)
  · exact hodd (.inl rfl)
  · exact heven (.inr rfl)
  · exact hodd (.inr rfl)

end Sys2Proof.Machine
end

section
/-! SUPPORT. A triangle whose vertices lie on one line: both edges of every scanned row have the same X, so no pixel is
covered and the command leaves memory and every pixel count (R233, R235, R236; O34). -/

namespace Sys2Proof.Machine

open Sys2Proof

/-! ## Colinear points -/

theorem colinear_swap_first {a b c : Point} (h : colinear a b c) : colinear b a c := by
  unfold colinear at h ⊢
  linear_combination -h

theorem colinear_swap_last {a b c : Point} (h : colinear a b c) : colinear a c b := h.symm

/-- The stable sort permutes the vertices, and colinearity does not depend on their order. -/
theorem colinear_sortPoints {a b c : Point} (h : colinear a b c) :
    colinear (sortPoints a b c).v0 (sortPoints a b c).v1 (sortPoints a b c).v2 := by
  have hpq : colinear (if b.y < a.y then b else a) (if b.y < a.y then a else b) c := by
    split
    · exact colinear_swap_first h
    · exact h
  unfold sortPoints
  dsimp only
  generalize (if b.y < a.y then b else a) = p at hpq ⊢
  generalize (if b.y < a.y then a else b) = q at hpq ⊢
  split
  · exact colinear_swap_first (colinear_swap_last hpq)
  · split
    · exact colinear_swap_last hpq
    · exact hpq

/-! ## The X of an edge (R233) -/

/-- The numerator of the rounded X at which the line through `p` and `q` meets height `c`, over `one * (q.y - p.y)`. -/
def edgeNum (half : Int) (p q : Point) (c : Int) : Int :=
  p.x * (q.y - p.y) + (c - p.y) * (q.x - p.x) + half * (q.y - p.y)

theorem edgeX_of_lt {frac : Nat} {p q : Point} (h : p.y < q.y) (y : Int) : edgeX frac p q y =
    edgeNum (halfPixel frac) p q (2 ^ frac * y + halfPixel frac) / (2 ^ frac * (q.y - p.y)) :=
  if_neg (sub_ne_zero.mpr (ne_of_gt h))

theorem edgeX_of_eq {frac : Nat} {p q : Point} (h : p = q) (y : Int) :
    edgeX frac p q y = (p.x + halfPixel frac) / 2 ^ frac := by
  subst h
  simp [edgeX]

/-- Quotients of equal ratios have the same floor. -/
theorem ediv_eq_ediv_of_mul_eq {one a b d e : Int} (hd : 0 < d) (he : 0 < e) (h : a * e = b * d) :
    a / (one * d) = b / (one * e) := by
  calc a / (one * d) = a * e / (one * d * e) := (Int.mul_ediv_mul_of_pos_left _ _ he).symm
    _ = b * d / (one * e * d) := by rw [h, mul_right_comm]
    _ = b / (one * e) := Int.mul_ediv_mul_of_pos_left _ _ hd

/-- On a line, the edge from its first point to its second has the X of the long edge. -/
theorem edgeX_upper {frac : Nat} {a b c : Point} (h : colinear a b c) (hac : a.y < c.y) (hab : a.y < b.y) (y : Int) :
    edgeX frac a c y = edgeX frac a b y := by
  rw [edgeX_of_lt hac, edgeX_of_lt hab]
  refine ediv_eq_ediv_of_mul_eq (sub_pos.mpr hac) (sub_pos.mpr hab) ?_
  unfold edgeNum
  unfold colinear at h
  linear_combination -(2 ^ frac * y + halfPixel frac - a.y) * h

/-- On a line, the edge from its second point to its third has the X of the long edge. -/
theorem edgeX_lower {frac : Nat} {a b c : Point} (h : colinear a b c) (hac : a.y < c.y) (hbc : b.y < c.y) (y : Int) :
    edgeX frac a c y = edgeX frac b c y := by
  rw [edgeX_of_lt hac, edgeX_of_lt hbc]
  refine ediv_eq_ediv_of_mul_eq (sub_pos.mpr hac) (sub_pos.mpr hbc) ?_
  unfold edgeNum
  unfold colinear at h
  linear_combination (2 ^ frac * y + halfPixel frac - c.y) * h

/-- The long edge at the height of its last point has that point's X. -/
theorem edgeX_at_end {frac : Nat} {a c : Point} (hac : a.y < c.y) {y : Int} (hy : 2 ^ frac * y + halfPixel frac = c.y) :
    edgeX frac a c y = (c.x + halfPixel frac) / 2 ^ frac := by
  have hnum : edgeNum (halfPixel frac) a c c.y = (c.x + halfPixel frac) * (c.y - a.y) := by
    unfold edgeNum
    ring
  rw [edgeX_of_lt hac, hy, hnum]
  exact Int.mul_ediv_mul_of_pos_left _ _ (sub_pos.mpr hac)

/-! ## The rows of a triangle (R233) -/

/-- A pixel is two halves; without fraction bits it is one part, and its half is none. -/
theorem halfPixel_cases (frac : Nat) :
    ((halfPixel frac : Nat) : Int) = 0 ∧ (2 : Int) ^ frac = 1 ∨ (2 : Int) ^ frac = 2 * (halfPixel frac : Int) := by
  cases frac with
  | zero => exact .inl ⟨rfl, rfl⟩
  | succ k =>
    refine .inr ?_
    have hhalf : halfPixel (k + 1) = 2 ^ k := by
      rw [halfPixel, pow_succ, Nat.mul_div_cancel _ (by decide)]
    rw [hhalf, pow_succ, mul_comm]
    push_cast
    rfl

/-- The centre of a scanned row lies between the topmost vertex and the lowest one, which are not level. -/
theorem centre_of_row {frac : Nat} {p q : Point} {y : Int} (hp : rowOf frac p ≤ y) (hq : y < rowOf frac q) :
    p.y ≤ 2 ^ frac * y + halfPixel frac ∧ 2 ^ frac * y + halfPixel frac ≤ q.y ∧ p.y < q.y := by
  have hone : (0 : Int) < 2 ^ frac := by positivity
  have hlow : p.y + halfPixel frac < (y + 1) * 2 ^ frac :=
    (Int.ediv_lt_iff_lt_mul hone).mp (Int.lt_add_one_of_le hp)
  have hhigh : (y + 1) * 2 ^ frac ≤ q.y + halfPixel frac := (Int.le_ediv_iff_mul_le hone).mp hq
  rw [add_mul, one_mul, mul_comm] at hlow hhigh
  rcases halfPixel_cases frac with ⟨hhalf, hunit⟩ | htwo <;> omega

/-- Where the vertices lie on one line, the two edges of a scanned row meet (R235). -/
theorem spanOf_colinear {frac : Nat} {v : Sorted} (h : colinear v.v0 v.v1 v.v2) {y : Int}
    (hfirst : rowOf frac v.v0 ≤ y) (hlast : y < rowOf frac v.v2) : (spanOf frac v y).first = (spanOf frac v y).stop := by
  obtain ⟨hbelow, habove, hlong⟩ := centre_of_row hfirst hlast
  have hmeet : edgeX frac v.v0 v.v2 y =
      if 2 ^ frac * y + halfPixel frac < v.v1.y then edgeX frac v.v0 v.v1 y else edgeX frac v.v1 v.v2 y := by
    split
    · exact edgeX_upper h hlong (by omega) y
    · rcases lt_or_eq_of_le (show v.v1.y ≤ v.v2.y by omega) with hlt | hflat
      · exact edgeX_lower h hlong hlt y
      · have hpoint : v.v1 = v.v2 := by
          obtain ⟨⟨x0, y0⟩, ⟨x1, y1⟩, ⟨x2, y2⟩⟩ := v
          simp only [colinear] at h hlong hflat
          subst hflat
          have hx : x1 - x0 = x2 - x0 := mul_right_cancel₀ (sub_ne_zero.mpr (ne_of_gt hlong)) h
          rw [sub_left_inj.mp hx]
        rw [edgeX_of_eq hpoint, hpoint]
        exact edgeX_at_end hlong (by omega)
  unfold spanOf
  rw [← hmeet]
  simp only [le_refl, if_true]

/-! ## The triangle (R235) -/

/-- A snapshot whose vertices lie on one line covers no pixel. -/
theorem Snapshot.not_covers_of_colinear {n : Snapshot} (h : colinear n.va.point n.vb.point n.vc.point) (x y : Nat) :
    ¬ n.covers x y := by
  simp only [Snapshot.covers, Snapshot.covered, Bool.and_eq_true, decide_eq_true_eq]
  rintro ⟨⟨⟨⟨-, hfirst⟩, hlast⟩, hleft⟩, hright⟩
  have := spanOf_colinear (colinear_sortPoints h) hfirst hlast
  omega

/-- Its rasterizer makes no pass, whatever the state. -/
theorem rasterize_colinear {n : Snapshot} (h : colinear n.va.point n.vb.point n.vc.point) (s : State) :
    rasterize n s = .next s := by
  have hcells : n.cells = [] :=
    List.eq_nil_iff_forall_not_mem.mpr fun c hc => Snapshot.not_covers_of_colinear h c.1 c.2 (mem_cells.mp hc)
  rw [rasterize_eq_forList, hcells]
  rfl

/-- The sub-pixel step leaves the vertices. -/
theorem snapshot_points (d : State) (k : Nat) : (snapshot k (adjusted d)).va = d.fbi.va ∧
    (snapshot k (adjusted d)).vb = d.fbi.vb ∧ (snapshot k (adjusted d)).vc = d.fbi.vc :=
  ⟨(congrArg Fbi.va (adjusted_fbi d) :), (congrArg Fbi.vb (adjusted_fbi d) :), (congrArg Fbi.vc (adjusted_fbi d) :)⟩

/-- Framebuffer RAM, the stipple register and every pixel count are the same, and one more triangle is counted. -/
structure CountedUndrawn (s t : State) : Prop where
  ram : t.fbi.ram = s.fbi.ram
  stipple : t.reg 0 Reg.stipple = s.reg 0 Reg.stipple
  pixelsIn : t.pixelsInTotal = s.pixelsInTotal
  pixelsOut : t.pixelsOutTotal = s.pixelsOutTotal
  chromaFail : t.chromaFailTotal = s.chromaFailTotal
  zfuncFail : t.zfuncFailTotal = s.zfuncFailTotal
  afuncFail : t.afuncFailTotal = s.afuncFailTotal
  stippleCount : t.stats.stippleCount = s.stats.stippleCount
  counted : t.reg 0 Reg.fbiTrianglesOut = s.reg 0 Reg.fbiTrianglesOut + 1

/-- What the fold and the triangle count leave of a state in which no pass ran (R236). -/
theorem countedUndrawn_of_foldStats {s : State} (hw : s.regs.wf = true) :
    CountedUndrawn s { countTriangle (foldStats s) with result := none } := by
  obtain ⟨cin, cout, cchroma, cz, ca⟩ := countTriangle_totals (foldStats s)
  obtain ⟨fin, fchroma, fz, fa, fout⟩ := foldStats_totals hw
  have hcount : (foldStats s).reg 0 Reg.fbiTrianglesOut = s.reg 0 Reg.fbiTrianglesOut :=
    foldStats_reg_other (by decide) (by decide)
  exact {
    ram := rfl
    stipple := (State.reg_setReg_ne _ (by decide) (by decide) (by decide) _).trans
      (foldStats_reg_other (by decide) (by decide))
    pixelsIn := cin.trans fin
    pixelsOut := cout.trans fout
    chromaFail := cchroma.trans fchroma
    zfuncFail := cz.trans fz
    afuncFail := ca.trans fa
    stippleCount := rfl
    counted := (State.reg_setReg_same (foldStats_wf hw) _ _ _).trans (congrArg (· + 1) hcount) }

/-- The counts of a state with the same screen and the same statistics. -/
theorem SameScreen.countedUndrawn {s u t : State} (h : SameScreen s u) (hstats : u.stats = s.stats)
    (ht : CountedUndrawn u t) : CountedUndrawn s t where
  ram := ht.ram.trans h.ram
  stipple := ht.stipple.trans (h.reg0 (by decide))
  pixelsIn := ht.pixelsIn.trans (congrArg₂ (· + ·) (h.reg0 (by decide)) (congrArg Stats.pixelsIn hstats))
  pixelsOut := ht.pixelsOut.trans (congrArg₂ (· + ·) (h.reg0 (by decide)) (congrArg Stats.pixelsOut hstats))
  chromaFail := ht.chromaFail.trans (congrArg₂ (· + ·) (h.reg0 (by decide)) (congrArg Stats.chromaFail hstats))
  zfuncFail := ht.zfuncFail.trans (congrArg₂ (· + ·) (h.reg0 (by decide)) (congrArg Stats.zfuncFail hstats))
  afuncFail := ht.afuncFail.trans (congrArg₂ (· + ·) (h.reg0 (by decide)) (congrArg Stats.afuncFail hstats))
  stippleCount := ht.stippleCount.trans (congrArg Stats.stippleCount hstats)
  counted := by rw [ht.counted, h.reg0 (by decide)]

/-- A submitted triangle with room in the cache and its vertices on one line is counted and not drawn, whatever its
units. -/
theorem Submitted.colinear_undrawn {index : Nat} {chips : BitVec 4} {value : Word} {d u : State}
    (h : Submitted index chips value d u) (hbuf : FbzMode.drawBuffer d.config.constants (d.reg 0 Reg.fbzMode) < 2)
    (hroom : d.cacheRoom) (hline : colinear d.fbi.va.point d.fbi.vb.point d.fbi.vc.point) :
    ∃ t, submitTriangle u = .next t ∧ CountedUndrawn d t := by
  have hcache : u.cache = d.cache := (congrArg State.cache h.eq :)
  obtain ⟨c, hsubmit⟩ := submitTriangle_room (s := u) (by rw [h.modes.config, h.modes.reg0 (by decide)]; exact hbuf)
    ((h.modes.cacheRoom_iff hcache).mpr hroom)
  obtain ⟨ha, hb, hc⟩ := snapshot_points d (activeUnits d)
  rw [h.snapshot_eq, h.adjusted_eq, rasterize_colinear (by rw [ha, hb, hc]; exact hline)] at hsubmit
  have hstats : (drawStart d u c).stats = d.stats := (congrArg State.stats (Machine.adjusted_eq d) :)
  exact ⟨_, hsubmit, (h.screen c).countedUndrawn hstats (countedUndrawn_of_foldStats (s := drawStart d u c) h.wf)⟩

/-- triangleCMD and ftriangleCMD that select the FBI submit the state they find, with their own slot stored. -/
theorem triangle_submitted {p : Nat × (BitVec 4 → Word → Instr)}
    (hp : p ∈ [(0x20, Instr.triangleCMD), (0x40, .ftriangleCMD)]) {k : BitVec 4} (v : Word) {s : State}
    (h : Accepts s p.1) (hsel : selected s.config k 0 = true) :
    Submitted p.1 k v s (stored p.1 k v s) ∧ exec (p.2 k v) s = submitTriangle (stored p.1 k v s) := by
  obtain ⟨hn, hslot, hexec⟩ := triangle_rows hp
  refine ⟨{ command := hslot, running := h.running, eq := stored_eq p.1 k v s, wf := stored_wf h.canonical _ _ _,
            slots := fun bank i hb hi => stored_reg h.canonical hn k v hb hi }, ?_⟩
  rw [hexec, regWrite_run h rfl]
  simp only [RegEffect.run, selectOf_fbi, hsel, if_true]

/-- Settles O34: both edges of every scanned row meet, so the submitted triangle is counted without a pass. -/
theorem colinearTriangleDrawsNothing : Obligations.ColinearTriangleDrawsNothing := by
  intro p hp k v s h hsel hbuf hroom hline
  obtain ⟨hsub, hrun⟩ := triangle_submitted hp v h hsel
  obtain ⟨t, ht, hcounts⟩ := hsub.colinear_undrawn hbuf hroom hline
  exact ⟨t, hrun.trans ht, hcounts.ram, hcounts.stipple, hcounts.pixelsIn, hcounts.pixelsOut, hcounts.chromaFail,
    hcounts.zfuncFail, hcounts.afuncFail, hcounts.stippleCount, hcounts.counted⟩

end Sys2Proof.Machine
end

section
/-! SUPPORT. cvt_N as truncation and saturation in the width of its result (R244; O43). -/

namespace Sys2Proof.Machine

open Sys2Proof

/-- Clamping between ordered bounds, in the order of `max` and `min` (R11). -/
theorem clampInt_eq_max_min {lo hi : Int} (h : lo ≤ hi) (x : Int) : clampInt x lo hi = max lo (min x hi) := by
  unfold clampInt
  simp only []
  split <;> split <;> omega

/-- The bounds of the signed values of a width enclose 0. -/
theorem signed_bounds (n : Nat) : (-2 ^ (n - 1) : Int) ≤ 0 ∧ (0 : Int) ≤ 2 ^ (n - 1) - 1 := by
  have hpos : (0 : Int) < 2 ^ (n - 1) := by positivity
  omega

/-- The magnitude of `m * 2 ^ e`, truncated (R244). -/
def truncatedMagnitude (m : Nat) (e : Int) : Int :=
  if 0 ≤ e then ((m * 2 ^ e.toNat : Nat) : Int) else ((m / 2 ^ (-e).toNat : Nat) : Int)

/-- A finite value converts to its truncation, clamped to the width. -/
theorem floatToInt_fin (n : Nat) (neg : Bool) (m : Nat) (e : Int) : floatToInt n (.fin neg m e) =
    BitVec.ofInt n (max (-2 ^ (n - 1))
      (min (if neg = true then -truncatedMagnitude m e else truncatedMagnitude m e) (2 ^ (n - 1) - 1))) := by
  obtain ⟨hlo, hhi⟩ := signed_bounds n
  rw [← clampInt_eq_max_min (hlo.trans hhi), truncatedMagnitude, ← Nat.shiftLeft_eq, ← Nat.shiftRight_eq_div_pow]
  rfl

/-- Settles O43: the clamped truncation and both saturation bounds lie inside the width, so they are read back. -/
theorem conversionTruncatesAndSaturates : Obligations.ConversionTruncatesAndSaturates := by
  intro n hn neg m e magnitude
  have hpos : 0 < n := by
    fin_cases hn <;> decide
  obtain ⟨hlo, hhi⟩ := signed_bounds n
  have hread : ∀ x : Int, -2 ^ (n - 1) ≤ x → x ≤ 2 ^ (n - 1) - 1 → (BitVec.ofInt n x).toInt = x :=
    fun x hx hx' => BitVec.toInt_ofInt_eq_self hpos hx (Int.lt_of_le_sub_one hx')
  refine ⟨?_, ?_, rfl⟩
  · rw [floatToInt_fin]
    exact hread _ (le_max_left _ _) (max_le (hlo.trans hhi) (min_le_right _ _))
  · cases neg with
    | false => exact hread _ (hlo.trans hhi) le_rfl
    | true => exact hread _ le_rfl (hlo.trans hhi)

end Sys2Proof.Machine
end

section
/-! SUPPORT. The raster cache as an append-only table: what a resolve does to the entries and the buckets, which lookups
it keeps, and the key words of absent units (R271–R274, R278; O37). -/

namespace Sys2Proof.Machine

open Sys2Proof

/-! ## What a resolve can do (R272, R274) -/

/-- A resolve that succeeds is a hit, or a miss with room for one more entry. -/
theorem Cache.resolve_cases {capacity n : Nat} {k : Key} {c d : Cache} (h : c.resolve capacity n k = some d) :
    (∃ e, c.lookup (hashKey k) k = some e ∧ d = c.hit (hashKey k) e) ∨
      (c.lookup (hashKey k) k = none ∧ d = c.allocate (hashKey k) k n) := by
  unfold Cache.resolve at h
  split at h
  · rename_i e he
    cases h
    exact .inl ⟨e, he, rfl⟩
  · rename_i hmiss
    split at h
    · cases h
    · cases h
      exact .inr ⟨hmiss, rfl⟩

theorem resolve_eq_some {n : Nat} {s t : State} (h : resolve n s = some t) :
    ∃ c, s.cache.resolve s.config.cacheMax n (makeKey n s) = some c ∧ t = { s with cache := c } := by
  unfold resolve at h
  split at h
  · rename_i c hc
    cases h
    exact ⟨c, hc, rfl⟩
  · cases h

/-! ## Keys and buckets -/

theorem hashKey_lt (k : Key) : hashKey k < 97 := Nat.mod_lt _ (by decide)

/-- The keys of the entries, in the order of their numbers. -/
def Cache.keys (c : Cache) : List Key := c.entries.map CacheEntry.key

/-- A lookup finds a key where the bucket lists an entry that has it. -/
theorem Cache.lookup_isSome_iff {c : Cache} {h : Nat} {k : Key} :
    (c.lookup h k).isSome = true ↔ ∃ e ∈ c.buckets.getD h [], c.keys[e]? = some k := by
  simp only [Cache.lookup, Cache.keys, List.find?_isSome, decide_eq_true_eq, List.getElem?_map]

/-- A cache that has grown, in its buckets and at the end of its entries, finds what it found before. -/
theorem Cache.lookup_isSome_mono {c d : Cache} {h : Nat} {k : Key} (hb : c.buckets.getD h [] ⊆ d.buckets.getD h [])
    (hk : c.keys <+: d.keys) (hc : (c.lookup h k).isSome = true) : (d.lookup h k).isSome = true := by
  rw [Cache.lookup_isSome_iff] at hc ⊢
  obtain ⟨e, he, hkey⟩ := hc
  obtain ⟨l, hl⟩ := hk
  refine ⟨e, hb he, ?_⟩
  rw [← hl]
  exact List.getElem?_append_left (List.getElem?_eq_some_iff.mp hkey).1 ▸ hkey

/-- A bucket that only gains entries, and the other buckets. -/
theorem subset_modify {f : List Nat → List Nat} (hf : ∀ b, b ⊆ f b) (bs : List (List Nat)) (h j : Nat) :
    bs.getD j [] ⊆ (bs.modify h f).getD j [] := by
  rw [List.getD_eq_getElem?_getD, List.getD_eq_getElem?_getD, List.getElem?_modify]
  cases bs[j]? with
  | none => exact List.Subset.refl _
  | some b =>
    by_cases hj : h = j
    · simpa [hj] using hf b
    · simp [hj]

theorem subset_cons_erase (e : Nat) (b : List Nat) : b ⊆ e :: b.erase e := by
  intro x hx
  by_cases he : x = e
  · exact he ▸ List.mem_cons_self
  · exact List.mem_cons_of_mem _ ((List.mem_erase_of_ne he).mpr hx)

/-! ## A hit and a miss -/

@[simp] theorem Cache.hit_keys (c : Cache) (h e : Nat) : (c.hit h e).keys = c.keys := by
  refine List.ext_getElem? fun i => ?_
  simp only [Cache.keys, Cache.hit, List.getElem?_map, List.getElem?_modify]
  cases c.entries[i]? with
  | none => rfl
  | some x => by_cases hi : e = i <;> simp [hi]

@[simp] theorem Cache.allocate_keys (c : Cache) (h : Nat) (k : Key) (n : Nat) : (c.allocate h k n).keys = c.keys ++ [k] :=
  List.map_append

theorem Cache.hit_keeps {c : Cache} {h j : Nat} (e : Nat) {k : Key} (hc : (c.lookup j k).isSome = true) :
    ((c.hit h e).lookup j k).isSome = true :=
  Cache.lookup_isSome_mono (subset_modify (subset_cons_erase e) _ _ _) (by rw [Cache.hit_keys]) hc

theorem Cache.allocate_keeps {c : Cache} {h j : Nat} (k' : Key) (n : Nat) {k : Key} (hc : (c.lookup j k).isSome = true) :
    ((c.allocate h k' n).lookup j k).isSome = true :=
  Cache.lookup_isSome_mono (subset_modify (List.subset_cons_self _) _ _ _)
    ⟨[k'], (Cache.allocate_keys c h k' n).symm⟩ hc

/-- The new entry stands at the front of its bucket. -/
theorem Cache.allocate_finds {c : Cache} {h : Nat} (hh : h < c.buckets.length) (k : Key) (n : Nat) :
    ((c.allocate h k n).lookup h k).isSome = true := by
  refine Cache.lookup_isSome_iff.mpr ⟨c.entries.length, ?_, ?_⟩
  · simp [Cache.allocate, List.getElem?_eq_getElem hh]
  · rw [Cache.allocate_keys, Cache.keys, List.getElem?_append_right (List.length_map _).le, List.length_map, Nat.sub_self]
    rfl

/-! ## A resolve of the cache -/

/-- What a successful resolve of key `k` leaves of a cache with its 97 buckets. -/
structure Cache.Resolved (k : Key) (c d : Cache) : Prop where
  buckets : d.buckets.length = 97
  found : (d.lookup (hashKey k) k).isSome = true
  keeps : ∀ k' : Key, (c.lookup (hashKey k') k').isSome = true → (d.lookup (hashKey k') k').isSome = true
  keys : d.keys = c.keys ++ if (c.lookup (hashKey k) k).isSome = true then [] else [k]

theorem Cache.resolve_resolved {capacity n : Nat} {k : Key} {c d : Cache} (hlen : c.buckets.length = 97)
    (h : c.resolve capacity n k = some d) : Cache.Resolved k c d := by
  have hbucket : hashKey k < c.buckets.length := hlen ▸ hashKey_lt k
  obtain ⟨e, hfound, rfl⟩ | ⟨hmiss, rfl⟩ := Cache.resolve_cases h
  · have hhit : (c.lookup (hashKey k) k).isSome = true := Option.isSome_iff_exists.mpr ⟨e, hfound⟩
    exact {
      buckets := (List.length_modify _ _ _).trans hlen
      found := Cache.hit_keeps e hhit
      keeps := fun _ => Cache.hit_keeps e
      keys := by rw [if_pos hhit, Cache.hit_keys, List.append_nil] }
  · exact {
      buckets := (List.length_modify _ _ _).trans hlen
      found := Cache.allocate_finds hbucket k n
      keeps := fun _ => Cache.allocate_keeps k n
      keys := by rw [hmiss, Cache.allocate_keys]; rfl }

/-! ## The key words of an absent unit (R271) -/

/-- Bit 31 of a normalised textureMode is cleared under the stated masks, so it is never all ones. -/
theorem normalTexture_ne_absent {c : Constants} (hk : c.keys = Constants.standard.keys) (v : Word) :
    normalTexture c v ≠ 0xFFFFFFFF := by
  intro h
  have htop : (normalTexture c v).getLsbD 31 = false := by
    unfold normalTexture
    rw [hk]
    simp [Constants.standard]
  rw [h] at htop
  exact absurd htop (by decide)

theorem makeKey_tex0_iff {s : State} (hk : s.config.constants.keys = Constants.standard.keys) (n : Nat) :
    (makeKey n s).tex0 = 0xFFFFFFFF ↔ n = 0 := by
  have htex : (makeKey n s).tex0 = if 1 ≤ n then normalTexture s.config.constants (s.texReg 0 Reg.textureMode)
      else s.config.constants.keys.absent := rfl
  rw [htex]
  split
  · exact ⟨fun h => absurd h (normalTexture_ne_absent hk _), fun h => by omega⟩
  · exact ⟨fun _ => by omega, fun _ => by rw [hk]; rfl⟩

theorem makeKey_tex1_iff {s : State} (hk : s.config.constants.keys = Constants.standard.keys) {n : Nat} (hn : n ≤ 2) :
    (makeKey n s).tex1 = 0xFFFFFFFF ↔ n < 2 := by
  have htex : (makeKey n s).tex1 = if n = 2 then normalTexture s.config.constants (s.texReg 1 Reg.textureMode)
      else s.config.constants.keys.absent := rfl
  rw [htex]
  split
  · exact ⟨fun h => absurd h (normalTexture_ne_absent hk _), fun h => by omega⟩
  · exact ⟨fun _ => by omega, fun _ => by rw [hk]; rfl⟩

/-- Settles O37: a resolve is a hit, which reorders one bucket, or a miss, which appends one entry; bit 31 of a unit's
key word tells it from the word of an absent unit. -/
theorem cacheIsAppendOnly : Obligations.CacheIsAppendOnly := by
  refine ⟨fun n s t hlen hres => ?_, fun n s hn hk => ⟨makeKey_tex0_iff hk n, makeKey_tex1_iff hk hn⟩⟩
  obtain ⟨c, hc, rfl⟩ := resolve_eq_some hres
  have h := Cache.resolve_resolved hlen hc
  exact ⟨rfl, h.buckets, h.found, h.keeps, h.keys⟩

end Sys2Proof.Machine
end

section
/-! SUPPORT. Two runs that differ in their raster caches: every stage of drawing commutes with a change of the cache, so a
triangle that resolves in both draws the same in both (R275, R276; O38). -/

namespace Sys2Proof.Machine

open Sys2Proof

/-! ## A change of the cache, and what does not see it -/

/-- The state with another raster cache. -/
def State.withCache (s : State) (c : Cache) : State := { s with cache := c }

/-- The answer with another raster cache in its next state. -/
def Answer.withCache (o : Answer) (c : Cache) : Answer :=
  match o with
  | .next s => .next (s.withCache c)
  | .fault r => .fault r
  | .refused r => .refused r

/-- The texture stage's answer with another raster cache in its state. -/
def Sampled.withCache (o : Sampled) (c : Cache) : Sampled := o.map fun r => (r.1, r.2.withCache c)

section

variable (s : State) (c : Cache)

@[simp] theorem State.withCache_config : (s.withCache c).config = s.config := rfl
@[simp] theorem State.withCache_fbi : (s.withCache c).fbi = s.fbi := rfl
@[simp] theorem State.withCache_fatal : (s.withCache c).fatal = s.fatal := rfl
@[simp] theorem State.withCache_reg (b i : Nat) : (s.withCache c).reg b i = s.reg b i := rfl
@[simp] theorem State.withCache_texReg (u i : Nat) : (s.withCache c).texReg u i = s.texReg u i := rfl
@[simp] theorem State.withCache_tmu (u : Nat) : (s.withCache c).tmu u = s.tmu u := rfl

/-! ## Named updates -/

@[simp] theorem State.setReg_withCache (b i : Nat) (v : Word) :
    (s.withCache c).setReg b i v = (s.setReg b i v).withCache c := rfl
@[simp] theorem State.setFbi_withCache (f : Fbi) : (s.withCache c).setFbi f = (s.setFbi f).withCache c := rfl
@[simp] theorem count_withCache (k : Counter) : count k (s.withCache c) = (count k s).withCache c := rfl
@[simp] theorem done_withCache : done (s.withCache c) = (done s).withCache c := rfl
@[simp] theorem State.setTmu_withCache (u : Nat) (t : Tmu) :
    (s.withCache c).setTmu u t = (s.setTmu u t).withCache c := by
  unfold State.setTmu
  split <;> rfl

/-- The count and the fold at the end of a triangle (R236). -/
theorem countFolded_withCache :
    countTriangle (foldStats (s.withCache c)) = (countTriangle (foldStats s)).withCache c := rfl

theorem storeBanks_withCache (sel : Select) (i : Nat) (v : Word) :
    storeBanks sel i v (s.withCache c) = (storeBanks sel i v s).withCache c := by
  obtain ⟨f, t0, t1⟩ := sel
  cases f <;> cases t0 <;> cases t1 <;> rfl

/-! ## Framebuffer RAM -/

@[simp] theorem fbRead16_withCache (a : Nat) :
    fbRead16 a (s.withCache c) = ((fbRead16 a s).1, (fbRead16 a s).2.withCache c) := by
  unfold fbRead16
  rw [State.withCache_fbi]
  split <;> rfl

@[simp] theorem bufferRead_withCache (base : Option Word) (x sy : Nat) :
    bufferRead base x sy (s.withCache c) = ((bufferRead base x sy s).1, (bufferRead base x sy s).2.withCache c) := by
  cases base with
  | none => rfl
  | some b => exact fbRead16_withCache s c _

@[simp] theorem fbWrite16_withCache (a : Nat) (v : Half) :
    fbWrite16 a v (s.withCache c) = (fbWrite16 a v s).withCache c := by
  unfold fbWrite16
  rw [State.withCache_fbi]
  split <;> rfl

@[simp] theorem bufferWrite_withCache (base : Option Word) (x sy : Nat) (v : Half) :
    bufferWrite base x sy v (s.withCache c) = (bufferWrite base x sy v s).withCache c := by
  cases base with
  | none => rfl
  | some b => exact fbWrite16_withCache s c _ v

/-! ## Clip, stipple and depth (R292–R299) -/

@[simp] theorem stippleRotate_withCache : stippleRotate (s.withCache c) = (stippleRotate s).withCache c := by
  unfold stippleRotate
  simp only [apply_ite (fun u : State => u.withCache c)]
  rfl

@[simp] theorem depthRead_withCache (x sy : Nat) :
    depthRead (s.withCache c) x sy = ((depthRead s x sy).1, (depthRead s x sy).2.withCache c) := by
  unfold depthRead
  rw [State.withCache_reg, State.withCache_fbi]
  split
  · cases s.fbi.auxoffs with
    | none => rfl
    | some b => simp only [fbRead16_withCache]
  · rfl

theorem pixelFront_withCache (x y : Nat) (z : Word) (w : DWord) : pixelFront x y z w (s.withCache c) =
    ((pixelFront x y z w s).1, (pixelFront x y z w s).2.withCache c) := by
  have hclip : clipPass (s.withCache c) = clipPass s := rfl
  have hstipple : ∀ u : State, stipplePass (u.withCache c) x y = stipplePass u x y := fun _ => rfl
  have hdepth : ∀ u : State, depthPass (u.withCache c) = depthPass u := fun _ => rfl
  have hvalue : ∀ u : State, depthValue (u.withCache c) = depthValue u := fun _ => rfl
  have hrow : screenY (s.withCache c) y = screenY s y := rfl
  unfold pixelFront
  simp only [hclip, hrow, count_withCache, stippleRotate_withCache, hstipple, depthRead_withCache, hdepth, hvalue,
    State.withCache_config]
  split
  · rfl
  · split
    · rfl
    · split <;> rfl

/-! ## The texture stage (R305–R314) -/

@[simp] theorem freshUnit_withCache (u : Nat) : freshUnit u (s.withCache c) = (freshUnit u s).withCache c := by
  unfold freshUnit recomputeUnit
  rw [State.withCache_tmu]
  split
  · exact State.setTmu_withCache s c u _
  · rfl

theorem texUnit_withCache (u x y : Nat) (it : UnitIter) (o : Argb) :
    texUnit u x y it o (s.withCache c) = (texUnit u x y it o s).withCache c := by
  unfold texUnit
  simp only [State.withCache_texReg, State.withCache_config, State.withCache_tmu, State.setTmu_withCache]
  split <;> rfl

theorem textureStep_withCache (u x y : Nat) (it : UnitIter) (o : Argb) :
    textureStep u x y it o (s.withCache c) = (textureStep u x y it o s).withCache c := by
  unfold textureStep
  simp only [freshUnit_withCache, State.withCache_tmu, State.withCache_config]
  split
  · exact texUnit_withCache _ c u x y it o
  · rfl

theorem textureStage_withCache (n x y : Nat) (it0 it1 : UnitIter) :
    textureStage n x y it0 it1 (s.withCache c) = (textureStage n x y it0 it1 s).withCache c := by
  have hfirst : ∀ o : Argb, (if 2 ≤ n then textureStep 1 x y it1 o (s.withCache c) else .ok (o, s.withCache c)) =
      Sampled.withCache (if 2 ≤ n then textureStep 1 x y it1 o s else .ok (o, s)) c := by
    intro o
    split
    · exact textureStep_withCache s c 1 x y it1 o
    · rfl
  unfold textureStage
  simp only [hfirst]
  generalize (if 2 ≤ n then textureStep 1 x y it1 _ s else _ : Sampled) = first
  cases first with
  | error r => rfl
  | ok r =>
    simp only [Sampled.withCache, Except.map]
    split
    · exact textureStep_withCache r.2 c 0 x y it0 r.1
    · rfl

/-! ## Colour, blend and write-out (R316–R341) -/

@[simp] theorem destAlpha_withCache (x sy : Nat) :
    destAlpha x sy (s.withCache c) = ((destAlpha x sy s).1, (destAlpha x sy s).2.withCache c) := by
  unfold destAlpha
  simp only [State.withCache_reg, State.withCache_fbi, bufferRead_withCache, State.withCache_config]
  split <;> rfl

@[simp] theorem alphaBlend_withCache (base : Option Word) (x y sy : Nat) (col before : Argb) :
    alphaBlend base x y sy col before (s.withCache c) =
      ((alphaBlend base x y sy col before s).1, (alphaBlend base x y sy col before s).2.withCache c) := by
  unfold alphaBlend
  simp only [State.withCache_reg, bufferRead_withCache, destAlpha_withCache, State.withCache_config]
  split <;> rfl

theorem writeOut_withCache (base : Option Word) (x y : Nat) (d : Depth) (col : Argb) :
    writeOut base x y d col (s.withCache c) = (writeOut base x y d col s).withCache c := by
  unfold writeOut
  simp only [State.withCache_reg, State.withCache_config, bufferWrite_withCache]
  by_cases hrgb : FbzMode.rgbBufferMask (s.reg 0 Reg.fbzMode) = true
  · simp only [if_pos hrgb, State.withCache_fbi, bufferWrite_withCache]
    split <;> rfl
  · simp only [if_neg hrgb, State.withCache_fbi, bufferWrite_withCache]
    split <;> rfl

theorem pixelBack_withCache (base : Option Word) (x y : Nat) (d : Depth) (z : Word) (w : DWord) (ia col : Argb) :
    pixelBack base x y d z w ia col (s.withCache c) = (pixelBack base x y d z w ia col s).withCache c := by
  have hfog : fog (s.withCache c) = fog s := rfl
  unfold pixelBack
  simp only [hfog, alphaBlend_withCache, writeOut_withCache, count_withCache]

theorem pixelColour_withCache (x y : Nat) (d : Depth) (it : PixelIter) (tex : Argb) :
    pixelColour x y d it tex (s.withCache c) = (pixelColour x y d it tex s).withCache c := by
  have hwrap : wrapIterators (s.withCache c) = wrapIterators s := rfl
  have hloc : colourLocal (s.withCache c) = colourLocal s := rfl
  have hv2 : (s.withCache c).isV2 = s.isV2 := rfl
  have hchroma : chromaPass (s.withCache c) = chromaPass s := rfl
  have hmask : alphaMaskPass (s.withCache c) = alphaMaskPass s := rfl
  have halpha : alphaPass (s.withCache c) = alphaPass s := rfl
  have hbase : drawBase (s.withCache c) = drawBase s := rfl
  unfold pixelColour
  simp only [State.withCache_reg, State.withCache_config, hwrap, hloc, hv2, hchroma, hmask, halpha, hbase,
    count_withCache, pixelBack_withCache]
  split
  · rfl
  · split
    · rfl
    · split <;> rfl

/-! ## A pixel and a triangle (R233, R290) -/

theorem pixel_withCache (n x y : Nat) (it : PixelIter) (it0 it1 : UnitIter) :
    pixel n x y it it0 it1 (s.withCache c) = (pixel n x y it it0 it1 s).withCache c := by
  unfold pixel
  rw [pixelFront_withCache]
  obtain ⟨front, t⟩ := pixelFront x y it.z it.w s
  cases front with
  | none => rfl
  | some d =>
    simp only [textureStage_withCache]
    cases textureStage n x y it0 it1 t with
    | error r => rfl
    | ok r => exact congrArg Host.Outcome.next (pixelColour_withCache r.2 c x y d it r.1)

end

theorem andThen_withCache {k : State → Answer} (hk : ∀ s c, k (s.withCache c) = (k s).withCache c) (o : Answer)
    (c : Cache) : andThen (o.withCache c) k = (andThen o k).withCache c := by
  cases o with
  | next s => exact hk s c
  | fault r => rfl
  | refused r => rfl

theorem forList_withCache {α : Type} {k : α → State → Answer}
    (hk : ∀ a s c, k a (s.withCache c) = (k a s).withCache c) (l : List α) (s : State) (c : Cache) :
    forList l k (s.withCache c) = (forList l k s).withCache c := by
  induction l generalizing s c with
  | nil => rfl
  | cons a l ih =>
    simp only [forList, hk]
    exact andThen_withCache ih (k a s) c

theorem rasterize_withCache (n : Snapshot) (s : State) (c : Cache) :
    rasterize n (s.withCache c) = (rasterize n s).withCache c := by
  rw [rasterize_eq_forList, rasterize_eq_forList]
  exact forList_withCache (fun _ u d => pixel_withCache u d _ _ _ _ _ _) _ s c

/-! ## The submission (R230, R272, R276) -/

theorem adjusted_withCache (s : State) (c : Cache) : adjusted (s.withCache c) = (adjusted s).withCache c := by
  unfold adjusted
  rw [State.withCache_reg]
  split <;> rfl

/-- Both states have room for the triangle that they describe. -/
def RoomInBoth (s : State) (c : Cache) : Prop := s.cacheRoom ∧ (s.withCache c).cacheRoom

/-- Room depends on the cache and on the modes that the key is made of. -/
theorem RoomInBoth.of_same {s u : State} {c : Cache} (h : RoomInBoth s c) (hm : SameModes s u)
    (hc : u.cache = s.cache) : RoomInBoth u c :=
  ⟨(hm.cacheRoom_iff hc).mpr h.1,
    (SameModes.cacheRoom_iff (s := s.withCache c) (u := u.withCache c) ⟨hm.config, hm.reg⟩ rfl).mpr h.2⟩

/-- The two triangles are resolved, each in its own cache, and drawn alike. -/
theorem submitTriangle_withCache {s : State} {c : Cache} (h : RoomInBoth s c) :
    ∃ c', submitTriangle (s.withCache c) = (submitTriangle s).withCache c' := by
  obtain ⟨hs, hc⟩ := h
  by_cases hbuf : FbzMode.drawBuffer s.config.constants (s.reg 0 Reg.fbzMode) < 2
  · obtain ⟨d, hd⟩ := submitTriangle_room hbuf hs
    obtain ⟨d', hd'⟩ := submitTriangle_room (s := s.withCache c) hbuf hc
    refine ⟨d', hd'.trans ?_⟩
    have hstart : ({ adjusted (s.withCache c) with cache := d' } : State) =
        State.withCache { adjusted s with cache := d } d' := by rw [adjusted_withCache]; rfl
    have hsnap : snapshot (activeUnits (s.withCache c)) (adjusted (s.withCache c)) =
        snapshot (activeUnits s) (adjusted s) := by rw [adjusted_withCache]; rfl
    rw [hd, hstart, hsnap, rasterize_withCache]
    exact andThen_withCache (fun _ _ => rfl) _ d'
  · refine ⟨c, ?_⟩
    rw [submitTriangle_reserved (not_lt.mp hbuf), submitTriangle_reserved (s := s.withCache c) (not_lt.mp hbuf),
      adjusted_withCache, done_withCache]

/-! ## The setup step (R241–R243) -/

theorem setupAndDraw_withCache {s : State} {c : Cache} (h : RoomInBoth s c) :
    ∃ c', setupAndDraw (s.withCache c) = (setupAndDraw s).withCache c' := by
  have hset : RoomInBoth (s.setFbi (setupVertices s.config.constants.vertexFrac s.fbi)) c :=
    h.of_same (.of_eq rfl rfl) rfl
  have hgrad : ∀ u : State, setupGradients (u.withCache c) = (setupGradients u).withCache c := fun _ => rfl
  unfold setupAndDraw
  simp only [State.withCache_config, State.withCache_fbi, State.setFbi_withCache, State.withCache_reg, hgrad]
  split
  · exact ⟨c, rfl⟩
  · split
    · exact submitTriangle_withCache hset
    · exact submitTriangle_withCache (hset.of_same (.of_eq rfl rfl) rfl)

theorem appendStrip_withCache {s : State} {c : Cache} (h : RoomInBoth s c) :
    ∃ c', appendStrip (s.withCache c) = (appendStrip s).withCache c' := by
  have happend : appendVertex (s.withCache c) = (appendVertex s).withCache c := rfl
  unfold appendStrip
  simp only [happend, State.withCache_fbi]
  split
  · exact setupAndDraw_withCache (h.of_same (.of_eq rfl rfl) rfl)
  · exact ⟨c, rfl⟩

/-! ## The three commands (R149, R150, R156) -/

/-- A store in slot `n` leaves every other slot, canonical registers or not. -/
theorem storeBanks_slotsBut {n : Nat} (hn : n < 256) (sel : Select) (v : Word) (s : State) :
    SlotsBut n s (storeBanks sel n v s) := by
  have hstep : ∀ (on : Bool) (b : Nat) (u : State), SlotsBut n s u → SlotsBut n s (if on then u.setReg b n v else u) := by
    intro on b u hu
    cases on with
    | false => exact hu
    | true =>
      intro bank i hb hi hne
      exact (State.reg_setReg_other u hn hi v fun he => hne he.2).trans (hu bank i hb hi hne)
  exact hstep _ 2 _ (hstep _ 1 _ (hstep _ 0 s fun _ _ _ _ _ => rfl))

theorem RoomInBoth.stored {s : State} {c : Cache} (h : RoomInBoth s c) {n : Nat} (hslot : n ∈ commandSlots)
    (sel : Select) (v : Word) : RoomInBoth (storeBanks sel n v s) c := by
  have hn : n < 256 := by
    revert n
    decide
  have hslots := storeBanks_slotsBut hn sel v s
  rw [storeBanks_eq] at hslots ⊢
  exact h.of_same (.of_slotsBut hslot hslots) rfl

/-- The effect of a triangle command. -/
def RegEffect.DrawsTriangle (e : RegEffect) : Prop := e = .triangle ∨ e = .setupDraw

theorem run_withCache {e : RegEffect} (he : e.DrawsTriangle) (sel : Select) (v : Word) {s : State} {c : Cache}
    (h : RoomInBoth s c) : ∃ c', e.run sel v (s.withCache c) = (e.run sel v s).withCache c' := by
  obtain rfl | rfl := he
  · simp only [RegEffect.run]
    cases sel.fbi with
    | false => exact ⟨c, rfl⟩
    | true => exact submitTriangle_withCache h
  · simp only [RegEffect.run]
    cases sel.fbi with
    | false => exact ⟨c, rfl⟩
    | true => exact appendStrip_withCache h

theorem regWrite_withCache {n : Nat} (hslot : n ∈ commandSlots) {e : RegEffect} (he : e.DrawsTriangle) (k : BitVec 4)
    (v : Word) {s : State} {c : Cache} (h : RoomInBoth s c) :
    ∃ c', regWrite n e k v (s.withCache c) = (regWrite n e k v s).withCache c' := by
  have hstore : ∀ u, writeStored n e (selectOf s.config k) v u = storeBanks (selectOf s.config k) n v u := by
    obtain rfl | rfl := he <;> exact fun _ => rfl
  have hdrop : writeDropped (s.withCache c) n = writeDropped s n := rfl
  unfold regWrite unlessFatal
  simp only [State.withCache_fatal, State.withCache_config, hdrop, hstore, storeBanks_withCache]
  split
  · exact ⟨c, rfl⟩
  · split
    · exact ⟨c, rfl⟩
    · exact run_withCache he _ v (h.stored hslot _ v)

theorem triangleCommand_rows {p : Nat × (BitVec 4 → Word → Instr)}
    (hp : p ∈ [(0x20, Instr.triangleCMD), (0x40, .ftriangleCMD), (0xA8, .sDrawTriCMD)]) :
    p.1 ∈ commandSlots ∧ ∃ e : RegEffect, e.DrawsTriangle ∧ ∀ k v s, exec (p.2 k v) s = regWrite p.1 e k v s := by
  fin_cases hp
  · exact ⟨by decide, _, .inl rfl, fun _ _ _ => rfl⟩
  · exact ⟨by decide, _, .inl rfl, fun _ _ _ => rfl⟩
  · exact ⟨by decide, _, .inr rfl, fun _ _ _ => rfl⟩

/-- Settles O38: the command on the other cache gives the same answer with another cache in its next state. -/
theorem cacheNeverChangesTheOutput : Obligations.CacheNeverChangesTheOutput := by
  intro p hp k v s c hs hc
  obtain ⟨hslot, e, he, hexec⟩ := triangleCommand_rows hp
  obtain ⟨c', hrun⟩ := regWrite_withCache hslot he k v (c := c) ⟨hs, hc⟩
  rw [← hexec, ← hexec] at hrun
  refine ⟨fun t ht => ⟨c', ?_⟩, fun r hr => ?_⟩
  · rw [ht] at hrun
    exact hrun
  · rw [hr] at hrun
    exact hrun

end Sys2Proof.Machine
end

section
/-! SUPPORT. The counters of a pixel: a pixel that is not clipped is counted in and then in exactly one counter more, and
only the pixel that is counted out can write memory (R28, R291, R341, R404; O52, O53). -/

namespace Sys2Proof.Machine

open Sys2Proof

/-! ## The statistics block and its registers (R28) -/

/-- From `s` to `t` the statistics block has become `c`; the statistics registers hold what they held, and canonical
registers stay canonical. -/
structure CountedTo (c : Stats) (s t : State) : Prop where
  stats : t.stats = c
  regs : ∀ i, Reg.fbiPixelsIn ≤ i → i ≤ Reg.fbiPixelsOut → t.reg 0 i = s.reg 0 i
  wf : s.regs.wf = true → t.regs.wf = true

/-- Nothing is counted from `s` to `t`. -/
abbrev SameCounts (s t : State) : Prop := CountedTo s.stats s t

namespace CountedTo

variable {c d : Stats} {s t u : State}

theorem of_fields (hs : t.stats = s.stats) (hr : t.regs = s.regs) : SameCounts s t :=
  ⟨hs, fun i _ _ => congrArg (fun r : Memory 32 => r.read (0 * 256 + i)) hr, fun h => by rw [hr]; exact h⟩

theorem refl (s : State) : SameCounts s s := of_fields rfl rfl

theorem trans (h1 : CountedTo c s t) (h2 : CountedTo d t u) : CountedTo d s u :=
  ⟨h2.stats, fun i hl hu => (h2.regs i hl hu).trans (h1.regs i hl hu), fun h => h2.wf (h1.wf h)⟩

/-- A stage that counts nothing keeps what the stages before it have counted. -/
theorem same (h1 : CountedTo c s t) (h2 : SameCounts t u) : CountedTo c s u := h1.stats ▸ h1.trans h2

theorem count (h : CountedTo c s t) (k : Counter) : CountedTo (c.add k 1) s (count k t) :=
  ⟨congrArg (Stats.add · k 1) h.stats, h.regs, h.wf⟩

theorem ite {p : Prop} [Decidable p] (h : SameCounts s t) : SameCounts s (if p then t else s) := by
  split
  · exact h
  · exact refl s

theorem of_draws (h : drawsOnly s t) : SameCounts s t := by
  obtain ⟨n, rfl⟩ := h
  exact of_fields rfl rfl

/-- A write of a register outside the statistics registers. -/
theorem setReg (s : State) {i : Nat} (hi : i < 256) (hout : i < Reg.fbiPixelsIn ∨ Reg.fbiPixelsOut < i) (v : Word) :
    SameCounts s (s.setReg 0 i v) where
  stats := rfl
  regs := fun j hl hu => State.reg_setReg_ne s hi (by simp only [Reg.fbiPixelsOut] at hu; omega) (by omega) v
  wf := fun h => State.wf_setReg h _ _ _

theorem bufferWrite (base : Option Word) (x sy : Nat) (v : Half) (s : State) :
    SameCounts s (bufferWrite base x sy v s) := by
  rw [bufferWrite_eq]
  exact of_fields rfl rfl

end CountedTo

/-! ## The stages that count nothing -/

theorem stippleRotate_counts (s : State) : SameCounts s (stippleRotate s) :=
  .ite (.setReg s (by decide) (by decide) _)

theorem writeOut_counts (base : Option Word) (x y : Nat) (d : Depth) (c : Argb) (s : State) :
    SameCounts s (writeOut base x y d c s) :=
  (CountedTo.ite (.bufferWrite _ _ _ _ _)).same (.ite (.bufferWrite _ _ _ _ _))

/-- What every replacement of a unit keeps, the texture stage keeps (R305). -/
theorem textureStage_invariant {P : State → Prop} (hset : ∀ s u g, P s → P (s.setTmu u g)) {n x y : Nat}
    {it0 it1 : UnitIter} {c : Argb} {s t : State} (hs : P s) (ht : textureStage n x y it0 it1 s = .ok (c, t)) : P t := by
  have hfresh : ∀ u s, P s → P (freshUnit u s) := fun u s h => by
    unfold freshUnit
    split
    · exact hset _ _ _ h
    · exact h
  have hstep : ∀ {u : Nat} {it : UnitIter} {o c : Argb} {s t : State}, P s → textureStep u x y it o s = .ok (c, t) →
      P t := by
    intro u it o c s t h he
    unfold textureStep texUnit at he
    simp only [] at he
    split at he
    · split at he
      · cases he
      · cases he
        exact hset _ _ _ (hfresh _ _ h)
    · cases he
      exact hfresh _ _ h
  have hpass : ∀ {p : Prop} [Decidable p] {u : Nat} {it : UnitIter} {o c : Argb} {s t : State}, P s →
      (if p then textureStep u x y it o s else .ok (o, s)) = Except.ok (c, t) → P t := by
    intro p _ u it o c s t h he
    split at he
    · exact hstep h he
    · cases he
      exact h
  unfold textureStage at ht
  simp only [] at ht
  split at ht
  · cases ht
  · rename_i hfirst
    exact hpass (hpass hs hfirst) ht

theorem textureStage_counts {n x y : Nat} {it0 it1 : UnitIter} {c : Argb} {s t : State}
    (ht : textureStage n x y it0 it1 s = .ok (c, t)) : SameCounts s t :=
  textureStage_invariant (P := SameCounts s)
    (fun _ _ _ h => h.same (.of_fields (State.setTmu_stats _ _ _) (State.setTmu_regs _ _ _))) (.refl s) ht

/-! ## The end of a pixel (R291, R322–R324, R341) -/

/-- From statistics `c` the pixel is counted in one counter more, none but pixels-out with a write of memory. -/
def PixelEnds (c : Stats) (s t : State) : Prop :=
  ∃ k, k ≠ .pixelsIn ∧ CountedTo (c.add k 1) s t ∧ (k = .pixelsOut ∨ t.fbi = s.fbi)

namespace PixelEnds

variable {c : Stats} {s t u : State}

theorem rejected (h : CountedTo c s t) (hf : t.fbi = s.fbi) {k : Counter} (hk : k ≠ .pixelsIn) :
    PixelEnds c s (count k t) := ⟨k, hk, h.count k, .inr hf⟩

/-- The stages before the end may count too, but write no memory. -/
theorem after (h : CountedTo c s t) (hf : t.fbi = s.fbi) (he : PixelEnds t.stats t u) : PixelEnds c s u := by
  obtain ⟨k, hk, hc, hout⟩ := he
  rw [h.stats] at hc
  exact ⟨k, hk, h.trans hc, hout.imp_right (·.trans hf)⟩

/-- The three tests on the colour, in their order: a failed chroma test, a failed alpha mask or alpha test. -/
theorem tested (h : PixelEnds s.stats s t) (chroma mask alpha : Bool) :
    PixelEnds s.stats s (if chroma = true then count .chromaFail s else if mask = true then count .afuncFail s
      else if alpha = true then count .afuncFail s else t) := by
  have hfail : ∀ k, k ≠ .pixelsIn → PixelEnds s.stats s (count k s) := fun _ => rejected (.refl s) rfl
  split
  · exact hfail _ (by decide)
  · split
    · exact hfail _ (by decide)
    · split
      · exact hfail _ (by decide)
      · exact h

end PixelEnds

theorem pixelBack_ends (base : Option Word) (x y : Nat) (d : Depth) (z : Word) (w : DWord) (ia c : Argb) (s : State) :
    PixelEnds s.stats s (pixelBack base x y d z w ia c s) :=
  have hblend := CountedTo.of_draws (alphaBlend_state base x y d.sy (fog s x y d.wf z w ia c) c s)
  ⟨.pixelsOut, by decide, (hblend.same (writeOut_counts _ _ _ _ _ _)).count _, .inl rfl⟩

theorem pixelColour_ends (x y : Nat) (d : Depth) (it : PixelIter) (tex : Argb) (s : State) :
    PixelEnds s.stats s (pixelColour x y d it tex s) :=
  PixelEnds.tested (pixelBack_ends _ _ _ _ _ _ _ _ _) _ _ _

theorem lfbPipelineColour_ends (base : Option Word) (x y : Nat) (d : Depth) (p : LfbPixel) (s : State) :
    PixelEnds s.stats s (lfbPipelineColour base x y d p s) :=
  PixelEnds.tested (pixelBack_ends _ _ _ _ _ _ _ _ _) _ _ _

/-! ## A whole pixel (R290, R369) -/

/-- The pixel is clipped, or is counted in and ends in one counter more. -/
def PixelDone (s t : State) : Prop := t = s ∨ PixelEnds (s.stats.add .pixelsIn 1) s t

/-- What the front of the pipeline leaves: a pixel that ends there is done, one that passes is counted in. -/
def FrontDone (s t : State) : Option Depth → Prop
  | none => PixelDone s t
  | some _ => CountedTo (s.stats.add .pixelsIn 1) s t ∧ t.fbi = s.fbi

theorem pixelFront_done {x y : Nat} {z : Word} {w : DWord} {s t : State} {o : Option Depth}
    (h : pixelFront x y z w s = (o, t)) : FrontDone s t o := by
  have hin : CountedTo (s.stats.add .pixelsIn 1) s (stippleRotate (count .pixelsIn s)) :=
    ((CountedTo.refl s).count .pixelsIn).same (stippleRotate_counts _)
  have hfin : (stippleRotate (count .pixelsIn s)).fbi = s.fbi := stippleRotate_fbi _
  have hread := drawsOnly.of_state (depthRead_state (stippleRotate (count .pixelsIn s)) x (screenY s y))
  have hdepth := hin.same (.of_draws hread)
  have hfdepth := hread.ram.trans hfin
  unfold pixelFront at h
  simp only [] at h
  split at h
  · cases h
    exact .inl rfl
  · split at h
    · cases h
      exact .inr (.rejected hin hfin (by decide))
    · split at h
      · cases h
        exact ⟨hdepth, hfdepth⟩
      · cases h
        exact .inr (.rejected hdepth hfdepth (by decide))

theorem pixel_done {n x y : Nat} {it : PixelIter} {it0 it1 : UnitIter} {s t : State}
    (h : pixel n x y it it0 it1 s = .next t) : PixelDone s t := by
  unfold pixel at h
  split at h
  · rename_i hfront
    cases h
    exact pixelFront_done hfront
  · rename_i hfront
    obtain ⟨hin, hfin⟩ := pixelFront_done hfront
    split at h
    · cases h
    · rename_i hstage
      cases h
      exact .inr (.after (hin.same (textureStage_counts hstage)) ((textureStage_ok hstage).2.trans hfin)
        (pixelColour_ends _ _ _ _ _ _))

theorem lfbPipelinePixel_done (base : Option Word) (x y : Nat) (p : LfbPixel) (s : State) :
    PixelDone s (lfbPipelinePixel base x y p s) := by
  unfold lfbPipelinePixel
  split
  · rename_i hfront
    exact pixelFront_done hfront
  · rename_i hfront
    obtain ⟨hin, hfin⟩ := pixelFront_done hfront
    exact .inr (.after hin hfin (lfbPipelineColour_ends _ _ _ _ _ _))

/-! ## The counter identity of a pixel (R351) -/

theorem CountedTo.unaccounted {c : Stats} {s t : State} (h : CountedTo c s t) :
    t.unaccounted = (s.setStats c).unaccounted := by
  have hreg : ∀ i, Reg.fbiPixelsIn ≤ i → i ≤ Reg.fbiPixelsOut → t.reg 0 i = (s.setStats c).reg 0 i := h.regs
  simp (disch := decide) only [State.unaccounted, State.pixelsInTotal, State.pixelsOutTotal, State.chromaFailTotal,
    State.zfuncFailTotal, State.afuncFailTotal, hreg, h.stats, State.setStats_stats]

/-- One pixel in and one in any other counter leave the difference as it was. -/
theorem unaccounted_in_end (s : State) {k : Counter} (hk : k ≠ .pixelsIn) :
    (s.setStats ((s.stats.add .pixelsIn 1).add k 1)).unaccounted = s.unaccounted := by
  simp only [State.unaccounted, State.pixelsInTotal, State.pixelsOutTotal, State.chromaFailTotal, State.zfuncFailTotal,
    State.afuncFailTotal, State.reg_setStats, State.setStats_stats]
  cases k with
  | pixelsIn => exact absurd rfl hk
  | pixelsOut | chromaFail | zfuncFail | afuncFail | stippleCount =>
    simp only [Stats.add]
    ring

theorem PixelDone.unaccounted {s t : State} (h : PixelDone s t) : t.unaccounted = s.unaccounted := by
  obtain rfl | ⟨k, hk, hc, -⟩ := h
  · rfl
  · exact hc.unaccounted.trans (unaccounted_in_end s hk)

theorem Stats.add_pixelsOut (c : Stats) (k : Counter) (n : Word) :
    (c.add k n).pixelsOut = if k = .pixelsOut then c.pixelsOut + n else c.pixelsOut := by
  cases k <;> rfl

/-- A pixel is counted out, or leaves pixels-out and framebuffer RAM as they were. -/
theorem PixelDone.out_or_unwritten {s t : State} (h : PixelDone s t) :
    t.stats.pixelsOut = s.stats.pixelsOut + 1 ∨ (t.stats.pixelsOut = s.stats.pixelsOut ∧ t.fbi.ram = s.fbi.ram) := by
  obtain rfl | ⟨k, -, hc, hout⟩ := h
  · exact .inr ⟨rfl, rfl⟩
  · have hstats : t.stats.pixelsOut = if k = .pixelsOut then s.stats.pixelsOut + 1 else s.stats.pixelsOut :=
      (congrArg Stats.pixelsOut hc.stats).trans (Stats.add_pixelsOut _ _ _)
    by_cases hk : k = .pixelsOut
    · exact .inl (hstats.trans (if_pos hk))
    · exact .inr ⟨hstats.trans (if_neg hk), congrArg Fbi.ram (hout.resolve_left hk)⟩

/-- Settles O53: every pixel is clipped, or is counted in and ends in one counter more. -/
theorem pixelIsCountedOutOrWritesNothing : Obligations.PixelIsCountedOutOrWritesNothing :=
  fun _ _ _ _ _ _ _ _ h => ⟨(pixel_done h).out_or_unwritten, (pixel_done h).unaccounted⟩

/-! ## The plain pixel (R290, R352) -/

/-- Settles O52: the plain pixel is its two counts and its two masked writes, the aux word after the colour word. -/
theorem plainPixelWritesTheCombinedColour : Obligations.PlainPixelWritesTheCombinedColour := by
  intro x y it it0 it1 s hram hp
  have hframe := FillFrame.refl hram
  have hregs : (plainPixel s x y it s).regs = s.regs := (congrArg State.regs (hframe.plainPixel x y it).eq :)
  have hstats := plainPixel_stats s x y it s
  refine ⟨plainPixel s x y it s, pixel_plain hp x y it it0 it1, congrArg Stats.pixelsIn hstats,
    congrArg Stats.pixelsOut hstats, hregs, fun hmask hapart b hbase hfit => ?_, fun hmask _ b hbase hfit => ?_⟩
  · exact hframe.plainPixel_colour it hmask hbase hfit fun haux a hown hown' =>
      hapart haux x y x y a ⟨rfl, rfl⟩ ⟨rfl, rfl⟩ ⟨hown, hown'⟩
  · exact hframe.plainPixel_aux it hmask hbase hfit

end Sys2Proof.Machine
end

section
/-! SUPPORT. The counter identity of the drawing operations: the triangle commands and the pipelined LFB write are a row
of pixels, between steps that count no pixel (R28, R230, R351, R369; O35). -/

namespace Sys2Proof.Machine

open Sys2Proof

/-! ## Steps that leave every counted pixel accounted for -/

/-- With canonical registers the pixels not yet accounted for are the same, and the registers stay canonical. -/
def KeepsAccount (s t : State) : Prop := s.regs.wf = true → t.regs.wf = true ∧ t.unaccounted = s.unaccounted

namespace KeepsAccount

variable {s t u : State}

theorem refl (s : State) : KeepsAccount s s := fun h => ⟨h, rfl⟩

theorem trans (h1 : KeepsAccount s t) (h2 : KeepsAccount t u) : KeepsAccount s u := fun h =>
  have ⟨ht, e1⟩ := h1 h
  have ⟨hu, e2⟩ := h2 ht
  ⟨hu, e2.trans e1⟩

theorem of_same (h : SameCounts s t) : KeepsAccount s t := fun hw => ⟨h.wf hw, h.unaccounted⟩

theorem of_fields (hs : t.stats = s.stats) (hr : t.regs = s.regs) : KeepsAccount s t := of_same (.of_fields hs hr)

theorem of_pixel (h : PixelDone s t) : KeepsAccount s t := fun hw => by
  refine ⟨?_, h.unaccounted⟩
  obtain rfl | ⟨k, -, hc, -⟩ := h
  · exact hw
  · exact hc.wf hw

theorem foldStats (s : State) : KeepsAccount s (foldStats s) := fun hw => by
  obtain ⟨hin, hchroma, hz, ha, hout⟩ := foldStats_totals hw
  refine ⟨foldStats_wf hw, ?_⟩
  unfold State.unaccounted
  rw [hin, hchroma, hz, ha, hout]
  rfl

end KeepsAccount

/-! ## Triangles (R230, R241–R243) -/

theorem rasterize_account {n : Snapshot} {s t : State} (ht : rasterize n s = .next t) : KeepsAccount s t := by
  rw [rasterize_eq_forList] at ht
  exact forList_invariant (P := KeepsAccount s) (fun _ _ _ _ hw hu => hw.trans (.of_pixel (pixel_done hu))) (.refl s) ht

theorem submitTriangle_account {s t : State} (ht : submitTriangle s = .next t) : KeepsAccount s t := by
  have hadjusted : KeepsAccount s (adjusted s) := .of_fields (by rw [adjusted_eq]) (by rw [adjusted_eq])
  unfold submitTriangle at ht
  simp only [] at ht
  split at ht
  · cases ht
    exact hadjusted.trans (.of_fields rfl rfl)
  · split at ht
    · cases ht
      exact hadjusted.trans (.of_fields rfl rfl)
    · rename_i hres
      obtain ⟨c, -, rfl⟩ := resolve_eq_some hres
      have hresolved : KeepsAccount s { adjusted s with cache := c } := hadjusted.trans (.of_fields rfl rfl)
      obtain ⟨u, hu, hdone⟩ := andThen_eq_next ht
      cases hdone
      have hdrawn : KeepsAccount s u := hresolved.trans (rasterize_account hu)
      have hcounted : SameCounts (foldStats u) (countTriangle (foldStats u)) := .setReg _ (by decide) (by decide) _
      exact ((hdrawn.trans (.foldStats u)).trans (.of_same hcounted)).trans (.of_fields rfl rfl)

theorem setupGradients_account (s : State) : KeepsAccount s (setupGradients s) := .of_fields rfl rfl

theorem appendStrip_account {s t : State} (ht : appendStrip s = .next t) : KeepsAccount s t := by
  have hvertices : KeepsAccount s ((appendVertex s).setFbi
      (setupVertices (appendVertex s).config.constants.vertexFrac (appendVertex s).fbi)) := .of_fields rfl rfl
  unfold appendStrip setupAndDraw at ht
  simp only [] at ht
  split at ht
  · split at ht
    · cases ht
      exact hvertices.trans (.of_fields rfl rfl)
    · split at ht
      · exact hvertices.trans (submitTriangle_account ht)
      · exact (hvertices.trans (setupGradients_account _)).trans (submitTriangle_account ht)
  · cases ht
    exact .of_fields rfl rfl

/-! ## The three commands (R149, R150, R156) -/

/-- The store of a triangle command writes no statistics register. -/
theorem storeBanks_sameCounts {n : Nat} (hslot : n ∈ commandSlots) (sel : Select) (v : Word) (s : State) :
    SameCounts s (storeBanks sel n v s) := by
  obtain ⟨hn, hout⟩ : n < 256 ∧ (n < Reg.fbiPixelsIn ∨ Reg.fbiPixelsOut < n) := by
    revert n
    decide
  refine ⟨by rw [storeBanks_eq], fun i hl hu => ?_, fun hw => storeBanks_wf hw _ _ _⟩
  exact storeBanks_slotsBut hn sel v s 0 i (by decide) (by simp only [Reg.fbiPixelsOut] at hu; omega) (by omega)

theorem run_account {e : RegEffect} (he : e.DrawsTriangle) {sel : Select} {v : Word} {s t : State}
    (ht : e.run sel v s = .next t) : KeepsAccount s t := by
  obtain rfl | rfl := he
  · simp only [RegEffect.run] at ht
    split at ht
    · exact submitTriangle_account ht
    · cases ht
      exact .of_fields rfl rfl
  · simp only [RegEffect.run] at ht
    split at ht
    · exact appendStrip_account ht
    · cases ht
      exact .of_fields rfl rfl

theorem regWrite_account {n : Nat} (hslot : n ∈ commandSlots) {e : RegEffect} (he : e.DrawsTriangle) {k : BitVec 4}
    {v : Word} {s t : State} (ht : regWrite n e k v s = .next t) : KeepsAccount s t := by
  have hstore : writeStored n e (selectOf s.config k) v s = storeBanks (selectOf s.config k) n v s := by
    obtain rfl | rfl := he <;> rfl
  obtain ⟨-, ht⟩ := unlessFatal_next ht
  split at ht
  · cases ht
    exact .of_fields rfl rfl
  · rw [hstore] at ht
    exact .trans (.of_same (storeBanks_sameCounts hslot _ v s)) (run_account he ht)

/-! ## Pipelined LFB writes (R360, R369) -/

theorem lfbPixel_account (base : Option Word) (x y : Nat) (p : LfbPixel) (s : State) :
    KeepsAccount s (lfbPixel true base x y p s) := by
  unfold lfbPixel
  split
  · exact .refl s
  · exact .of_pixel (lfbPipelinePixel_done base x y p s)

theorem lfbPixels_account (base : Option Word) (offset : Word) (w : LfbWord) (s : State) :
    KeepsAccount s (lfbPixels true base offset w s) := by
  unfold lfbPixels
  split
  · exact lfbPixel_account _ _ _ _ _
  · exact (lfbPixel_account _ _ _ _ _).trans (lfbPixel_account _ _ _ _ _)

theorem lfbWrite_account {offset v : Word} {m : BitVec 4} {s t : State}
    (hpipe : LfbMode.enablePipeline (s.reg 0 Reg.lfbMode) = true) (ht : lfbWrite offset v m s = .next t) :
    KeepsAccount s t := by
  unfold lfbWrite at ht
  simp only [hpipe] at ht
  split at ht
  · cases ht
    exact .of_fields rfl rfl
  · split at ht
    · cases ht
      exact .of_fields rfl rfl
    · cases ht
      exact ((lfbPixels_account _ _ _ _).trans (.foldStats _)).trans (.of_fields rfl rfl)

/-- Settles O35: a triangle command is its store and a row of pixels, a pipelined LFB write at most two pixels, and each
pixel keeps the identity. -/
theorem counterIdentityOfDrawing : Obligations.CounterIdentityOfDrawing := by
  intro i s t hw hi ht
  obtain ⟨k, v, hi⟩ | ⟨hpipe, offset, v, m, rfl⟩ := hi
  · obtain ⟨p, hp, rfl⟩ := List.mem_map (f := fun p : Nat × (BitVec 4 → Word → Instr) => p.2 k v)
      (l := [(0x20, .triangleCMD), (0x40, .ftriangleCMD), (0xA8, .sDrawTriCMD)]) |>.mp hi
    obtain ⟨hslot, e, he, hexec⟩ := triangleCommand_rows hp
    rw [hexec] at ht
    exact (regWrite_account hslot he ht hw).2
  · obtain ⟨-, hrun⟩ := unlessFatal_next (k := lfbWrite offset v m) ht
    exact (lfbWrite_account hpipe hrun hw).2

end Sys2Proof.Machine
end

section
/-! SUPPORT. An LFB write: what it decodes to and where its pixels lie, the bytes each pixel can touch, and the write whose
byte mask is 0 (R360, R364, R366, R367, R369; O46). -/

namespace Sys2Proof.Machine

open Sys2Proof

/-! ## The operation (R360, R366) -/

theorem exec_lfbWr {s : State} (hf : s.fatal = none) (offset v : Word) (m : BitVec 4) :
    exec (.lfbWr offset v m) s = lfbWrite offset v m s :=
  unlessFatal_none (k := lfbWrite offset v m) hf

/-- The write is dropped: its format is reserved, or its buffer. -/
def lfbDropped (v : Word) (m : BitVec 4) (s : State) : Prop :=
  lfbDecode s.config.constants (s.reg 0 Reg.lfbMode) (lfbPrepare (s.reg 0 Reg.lfbMode) v m) (s.reg 0 Reg.zaColor) = none ∨
    lfbTarget s.config.constants (s.reg 0 Reg.lfbMode) s.fbi = none

/-- The write draws the pixels of `w` in colour buffer `buf`. -/
structure LfbDraws (v : Word) (m : BitVec 4) (s : State) (w : LfbWord) (buf : Fin 3) : Prop where
  word : lfbDecode s.config.constants (s.reg 0 Reg.lfbMode) (lfbPrepare (s.reg 0 Reg.lfbMode) v m)
    (s.reg 0 Reg.zaColor) = some w
  target : lfbTarget s.config.constants (s.reg 0 Reg.lfbMode) s.fbi = some buf

theorem lfbDropped_or_draws (v : Word) (m : BitVec 4) (s : State) :
    lfbDropped v m s ∨ ∃ w buf, LfbDraws v m s w buf := by
  cases hw : lfbDecode s.config.constants (s.reg 0 Reg.lfbMode) (lfbPrepare (s.reg 0 Reg.lfbMode) v m)
      (s.reg 0 Reg.zaColor) with
  | none => exact .inl (.inl hw)
  | some w =>
    cases ht : lfbTarget s.config.constants (s.reg 0 Reg.lfbMode) s.fbi with
    | none => exact .inl (.inr ht)
    | some buf => exact .inr ⟨w, buf, hw, ht⟩

theorem lfbWrite_dropped {v : Word} {m : BitVec 4} {s : State} (h : lfbDropped v m s) (offset : Word) :
    lfbWrite offset v m s = done s := by
  unfold lfbWrite
  obtain hw | ht := h
  · simp only [hw]
    rfl
  · simp only [ht]
    split <;> rfl

theorem LfbDraws.lfbWrite_eq {v : Word} {m : BitVec 4} {s : State} {w : LfbWord} {buf : Fin 3}
    (h : LfbDraws v m s w buf) (offset : Word) : lfbWrite offset v m s =
      done (foldStats (lfbPixels (LfbMode.enablePipeline (s.reg 0 Reg.lfbMode)) (s.fbi.rgb buf) offset w s)) := by
  unfold lfbWrite
  simp only [h.word, h.target]

theorem lfbWrite_completes (offset v : Word) (m : BitVec 4) (s : State) :
    ∃ t, lfbWrite offset v m s = .next t ∧ t.result = none := by
  obtain h | ⟨w, buf, h⟩ := lfbDropped_or_draws v m s
  · exact ⟨_, lfbWrite_dropped h offset, rfl⟩
  · exact ⟨_, h.lfbWrite_eq offset, rfl⟩

theorem lfbDecode_reserved {k : Constants} {mode : Word} (h : LfbMode.writeFormat k mode ∈ [3, 6, 7, 8, 9, 10, 11])
    (p : LfbData) (za : Word) : lfbDecode k mode p za = none := by
  unfold lfbDecode
  generalize LfbMode.writeFormat k mode = format at h ⊢
  fin_cases h <;> rfl

theorem lfbTarget_reserved {k : Constants} {mode : Word} (h : 2 ≤ LfbMode.writeBuffer k mode) (f : Fbi) :
    lfbTarget k mode f = none := by
  unfold lfbTarget
  split
  · omega
  · omega
  · rfl

/-! ## The raster cache -/

/-- What commutes with every change of the cache leaves the cache. -/
theorem cache_of_withCache {f : State → State} (h : ∀ s c, f (s.withCache c) = (f s).withCache c) (s : State) :
    (f s).cache = s.cache :=
  (congrArg State.cache (h s s.cache) :)

theorem lfbPipelineColour_withCache (s : State) (c : Cache) (base : Option Word) (x y : Nat) (d : Depth) (p : LfbPixel) :
    lfbPipelineColour base x y d p (s.withCache c) = (lfbPipelineColour base x y d p s).withCache c := by
  have hchroma : chromaPass (s.withCache c) = chromaPass s := rfl
  have hmask : alphaMaskPass (s.withCache c) = alphaMaskPass s := rfl
  have halpha : alphaPass (s.withCache c) = alphaPass s := rfl
  have hv2 : (s.withCache c).isV2 = s.isV2 := rfl
  unfold lfbPipelineColour
  simp only [State.withCache_reg, State.withCache_config, hchroma, hmask, halpha, hv2, count_withCache,
    pixelBack_withCache, ← apply_ite (fun u : State => u.withCache c)]

theorem lfbPipelinePixel_withCache (s : State) (c : Cache) (base : Option Word) (x y : Nat) (p : LfbPixel) :
    lfbPipelinePixel base x y p (s.withCache c) = (lfbPipelinePixel base x y p s).withCache c := by
  unfold lfbPipelinePixel
  rw [pixelFront_withCache, State.withCache_config]
  obtain ⟨front, t⟩ := pixelFront x y (p.z s.config.constants) (p.iw s.config.constants) s
  cases front with
  | none => rfl
  | some d => exact lfbPipelineColour_withCache t c base x y d p

theorem lfbRawPixel_withCache (s : State) (c : Cache) (base : Option Word) (x y : Nat) (p : LfbPixel) :
    lfbRawPixel base x y p (s.withCache c) = (lfbRawPixel base x y p s).withCache c := by
  have hrow : ∀ u : State, lfbRow (u.withCache c) y = lfbRow u y := fun _ => rfl
  unfold lfbRawPixel rawAux rawColour
  simp only [State.withCache_reg, State.withCache_config, State.withCache_fbi, hrow, bufferWrite_withCache, count_withCache,
    ← apply_ite (fun u : State => u.withCache c)]

theorem lfbPixel_withCache (s : State) (c : Cache) (pipeline : Bool) (base : Option Word) (x y : Nat) (p : LfbPixel) :
    lfbPixel pipeline base x y p (s.withCache c) = (lfbPixel pipeline base x y p s).withCache c := by
  unfold lfbPixel
  rw [lfbPipelinePixel_withCache, lfbRawPixel_withCache]
  simp only [apply_ite (fun u : State => u.withCache c)]

theorem lfbPixels_cache (pipeline : Bool) (base : Option Word) (offset : Word) (w : LfbWord) (s : State) :
    (lfbPixels pipeline base offset w s).cache = s.cache := by
  have hpixel : ∀ x y p u, (lfbPixel pipeline base x y p u).cache = u.cache := fun x y p =>
    cache_of_withCache fun u c => lfbPixel_withCache u c pipeline base x y p
  cases w with
  | single p => exact hpixel _ _ _ _
  | pair p0 p1 => exact (hpixel _ _ _ _).trans (hpixel _ _ _ _)

theorem lfbWrite_cache {offset v : Word} {m : BitVec 4} {s t : State} (ht : lfbWrite offset v m s = .next t) :
    t.cache = s.cache := by
  obtain h | ⟨w, buf, h⟩ := lfbDropped_or_draws v m s
  · rw [lfbWrite_dropped h] at ht
    cases ht
    rfl
  · rw [h.lfbWrite_eq] at ht
    cases ht
    exact lfbPixels_cache _ _ _ _ _

/-! ## Rows (R367, R369) -/

theorem DrawKeeps.lfbMode {s t : State} (h : DrawKeeps s t) : t.reg 0 Reg.lfbMode = s.reg 0 Reg.lfbMode :=
  h.reg0 (by decide) (by decide) (by decide)

theorem DrawKeeps.lfbRow {s t : State} (h : DrawKeeps s t) (y : Nat) : lfbRow t y = lfbRow s y := by
  unfold Machine.lfbRow flipY
  rw [h.lfbMode, h.fbi, h.config]

theorem DrawKeeps.lfbWriteRow {s t : State} (h : DrawKeeps s t) (y : Nat) : lfbWriteRow t y = lfbWriteRow s y := by
  unfold Machine.lfbWriteRow
  rw [h.lfbMode, h.screenY, h.lfbRow]

/-! ## The bytes of a raw pixel (R367) -/

theorem rawColour_keeps (base : Option Word) (x y : Nat) (p : LfbPixel) (s : State) :
    DrawKeeps s (rawColour base x y p s) := by
  unfold rawColour
  simp only []
  split
  · exact .bufferWrite _ _ _ _ _
  · exact .refl s

theorem rawColour_read {base : Option Word} {x y : Nat} {p : LfbPixel} {s : State} {a : Nat}
    (h : ¬ ownsByte s.fbi base x (lfbRow s y) a) : (rawColour base x y p s).fbi.ram.read a = s.fbi.ram.read a :=
  ite_bufferWrite_read h

theorem rawAux_read {x y : Nat} {p : LfbPixel} {s : State} {a : Nat}
    (h : ¬ ownsByte s.fbi s.fbi.auxoffs x (lfbRow s y) a) : (rawAux x y p s).fbi.ram.read a = s.fbi.ram.read a := by
  unfold rawAux
  simp only []
  split
  · split <;> exact ite_bufferWrite_read h
  · rfl

theorem lfbRawPixel_read {base : Option Word} {x y : Nat} {p : LfbPixel} {s : State} {a : Nat}
    (h : ¬ pixelByte s.fbi base x (lfbRow s y) a) : (lfbRawPixel base x y p s).fbi.ram.read a = s.fbi.ram.read a := by
  have hkeeps := rawColour_keeps base x y p s
  have haux : ¬ pixelByte (rawColour base x y p s).fbi base x (lfbRow (rawColour base x y p s) y) a := by
    rw [hkeeps.lfbRow, hkeeps.pixelByte]
    exact h
  exact (rawAux_read fun ho => haux (.inr ho)).trans (rawColour_read fun ho => h (.inl ho))

/-! ## The bytes of a pipelined pixel (R369) -/

theorem lfbPipelineColour_read {base : Option Word} {x y : Nat} {d : Depth} {p : LfbPixel} {s : State} {a : Nat}
    (h : ¬ pixelByte s.fbi base x d.sy a) : (lfbPipelineColour base x y d p s).fbi.ram.read a = s.fbi.ram.read a := by
  unfold lfbPipelineColour
  simp only []
  split
  · rfl
  · split
    · rfl
    · split
      · rfl
      · exact pixelBack_read h

theorem lfbPipelinePixel_read {base : Option Word} {x y : Nat} {p : LfbPixel} {s : State} {a : Nat}
    (h : ¬ pixelByte s.fbi base x (screenY s y) a) :
    (lfbPipelinePixel base x y p s).fbi.ram.read a = s.fbi.ram.read a := by
  have hfbi := pixelFront_fbi x y (p.z s.config.constants) (p.iw s.config.constants) s
  unfold lfbPipelinePixel
  split
  · rename_i hfront
    rw [hfront] at hfbi
    rw [hfbi]
  · rename_i d u hfront
    have hrow : d.sy = screenY s y := pixelFront_sy (congrArg Prod.fst hfront)
    rw [hfront] at hfbi
    simp only at hfbi
    rw [lfbPipelineColour_read (by rw [hrow, hfbi]; exact h), hfbi]

/-! ## The bytes of the word's pixels (R363, R364) -/

/-- The positions of the pixels of a decoded word. -/
def LfbWord.positions (k : Constants) (offset : Word) : LfbWord → List Position
  | .single _ => [lfbSinglePosition k offset]
  | .pair _ _ => [lfbPairPosition k offset, { lfbPairPosition k offset with x := (lfbPairPosition k offset).x + 1 }]

/-- The formats of two pixels are those that `lfbPositions` names (R362, R363). -/
theorem lfbPositions_of_decode {k : Constants} {mode : Word} {p : LfbData} {za : Word} {w : LfbWord}
    (h : lfbDecode k mode p za = some w) (offset : Word) : lfbPositions k mode offset = w.positions k offset := by
  unfold lfbDecode at h
  unfold lfbPositions
  generalize LfbMode.writeFormat k mode = format at h ⊢
  simp only [] at h
  split at h <;> cases h <;> rfl

theorem lfbPixel_read {base : Option Word} {x y : Nat} {p : LfbPixel} {s : State} {a : Nat}
    (h : ¬ pixelByte s.fbi base x (lfbWriteRow s y) a) :
    (lfbPixel (LfbMode.enablePipeline (s.reg 0 Reg.lfbMode)) base x y p s).fbi.ram.read a = s.fbi.ram.read a := by
  unfold lfbWriteRow at h
  unfold lfbPixel
  split
  · rfl
  · split
    · rename_i hpipe
      rw [if_pos hpipe] at h
      exact lfbPipelinePixel_read h
    · rename_i hraw
      rw [if_neg hraw] at h
      exact lfbRawPixel_read h

theorem lfbPixels_read {base : Option Word} {offset : Word} {w : LfbWord} {s : State} {a : Nat}
    (h : ∀ p ∈ w.positions s.config.constants offset, ¬ pixelByte s.fbi base p.x (lfbWriteRow s p.y) a) :
    (lfbPixels (LfbMode.enablePipeline (s.reg 0 Reg.lfbMode)) base offset w s).fbi.ram.read a = s.fbi.ram.read a := by
  cases w with
  | single p => exact lfbPixel_read (h _ (List.mem_singleton_self _))
  | pair p0 p1 =>
    obtain ⟨h0, hrest⟩ := List.forall_mem_cons.mp h
    have h1 := hrest _ (List.mem_singleton_self _)
    simp only [lfbPixels]
    generalize hu : lfbPixel _ base _ _ p0 s = u
    have hkeeps : DrawKeeps s u := hu ▸ lfbPixel_keeps _ _ _ _ _ _
    have hfirst : u.fbi.ram.read a = s.fbi.ram.read a := hu ▸ lfbPixel_read h0
    rw [← hkeeps.lfbMode, lfbPixel_read, hfirst]
    rw [hkeeps.lfbWriteRow, hkeeps.pixelByte]
    exact h1

/-- A byte outside the pixels of the offset is unchanged, whatever the data (R360). -/
theorem lfbWrite_read {offset v : Word} {m : BitVec 4} {s t : State} (ht : lfbWrite offset v m s = .next t) {a : Nat}
    (ha : ∀ p ∈ lfbPositions s.config.constants (s.reg 0 Reg.lfbMode) offset,
      ¬ pixelByte s.fbi ((lfbTarget s.config.constants (s.reg 0 Reg.lfbMode) s.fbi).bind s.fbi.rgb) p.x
        (lfbWriteRow s p.y) a) : t.fbi.ram.read a = s.fbi.ram.read a := by
  obtain h | ⟨w, buf, h⟩ := lfbDropped_or_draws v m s
  · rw [lfbWrite_dropped h] at ht
    cases ht
    rfl
  · rw [h.target, lfbPositions_of_decode h.word] at ha
    rw [h.lfbWrite_eq] at ht
    cases ht
    exact lfbPixels_read ha

/-! ## A byte mask of 0 (R360, R364) -/

theorem lfbPrepare_mask_zero (mode v : Word) : (lfbPrepare mode v 0).m = 0 := by
  have hreverse : reverseMask 0#4 = 0#4 := rfl
  simp [lfbPrepare, apply_ite LfbData.m, hreverse]

/-- The pixels of a decoded word. -/
def LfbWord.pixels : LfbWord → List LfbPixel
  | .single p => [p]
  | .pair p0 p1 => [p0, p1]

theorem lfbDecode_mask_zero {k : Constants} {mode : Word} {p : LfbData} {za : Word} {w : LfbWord} (hm : p.m = 0)
    (h : lfbDecode k mode p za = some w) : ∀ q ∈ w.pixels, q.present = false := by
  have hlo : p.loOn k.parts = false := by simp [LfbData.loOn, hm]
  have hhi : p.hiOn k.parts = false := by simp [LfbData.hiOn, hm]
  unfold lfbDecode lfbColourPair lfbDepthColour lfbDepthPair at h
  simp only [hlo, hhi] at h
  split at h <;> cases h <;> simp [LfbWord.pixels, LfbPixel.keep, LfbPixel.present]

theorem lfbPixel_absent {p : LfbPixel} (h : p.present = false) (pipeline : Bool) (base : Option Word) (x y : Nat)
    (s : State) : lfbPixel pipeline base x y p s = s := by
  simp [lfbPixel, h]

theorem lfbPixels_absent {w : LfbWord} (h : ∀ q ∈ w.pixels, q.present = false) (pipeline : Bool) (base : Option Word)
    (offset : Word) (s : State) : lfbPixels pipeline base offset w s = s := by
  cases w with
  | single p => exact lfbPixel_absent (h _ (List.mem_singleton_self _)) _ _ _ _ _
  | pair p0 p1 =>
    obtain ⟨h0, hrest⟩ := List.forall_mem_cons.mp h
    simp only [lfbPixels, lfbPixel_absent h0, lfbPixel_absent (hrest _ (List.mem_singleton_self _))]

/-- With no byte enabled the write is dropped, or folds the statistics and draws nothing. -/
theorem lfbWrite_mask_zero (offset v : Word) (s : State) :
    lfbWrite offset v 0 s = done s ∨ lfbWrite offset v 0 s = done (foldStats s) := by
  obtain h | ⟨w, buf, h⟩ := lfbDropped_or_draws v 0 s
  · exact .inl (lfbWrite_dropped h offset)
  · right
    rw [h.lfbWrite_eq, lfbPixels_absent (lfbDecode_mask_zero (lfbPrepare_mask_zero _ _) h.word)]

/-- Settles O46: the write is dropped, or is its pixels, each within its own bytes, and the fold. -/
theorem lfbWriteTouchesOnlyItsPixels : Obligations.LfbWriteTouchesOnlyItsPixels := by
  refine ⟨fun offset v m s hf => ?_, rfl, rfl, rfl, rfl⟩
  obtain ⟨t, ht, hresult⟩ := lfbWrite_completes offset v m s
  refine ⟨t, (exec_lfbWr hf offset v m).trans ht, hresult, lfbWrite_keeps ht, lfbWrite_cache ht,
    fun a ha => lfbWrite_read ht ha, fun hreserved => ?_, fun hm => ?_⟩
  · have hdropped : lfbDropped v m s :=
      hreserved.imp (fun hformat => lfbDecode_reserved hformat _ _) (fun hbuffer => lfbTarget_reserved hbuffer _)
    rw [lfbWrite_dropped hdropped] at ht
    cases ht
    rfl
  · subst hm
    obtain h | h := lfbWrite_mask_zero offset v s
    · rw [h] at ht
      cases ht
      exact ⟨rfl, rfl, rfl, fun _ => ⟨rfl, rfl, rfl, rfl, rfl⟩⟩
    · rw [h] at ht
      cases ht
      refine ⟨rfl, foldStats_reg_other (by decide) (by decide), rfl, fun hw => ?_⟩
      obtain ⟨hin, hchroma, hz, ha, hout⟩ := foldStats_totals hw
      exact ⟨hin, hout, hchroma, hz, ha⟩

end Sys2Proof.Machine
end

section
/-! SUPPORT. A raw 5-6-5 pair through the LFB: the word of each pixel is the half it came from, the two lie side by side in
RAM, and a read joins them again (R365, R367, R371, R372; O47). -/

namespace Sys2Proof.Machine

open Sys2Proof

/-! ## 5-6-5 to bytes and back (R339, R365) -/

theorem x5to8_drop : ∀ n, n < 32 →
    (x5to8 Constants.standard.expand n >>> Constants.standard.expand.dropFive) % 32 = n := by decide

theorem x6to8_drop : ∀ n, n < 64 →
    (x6to8 Constants.standard.expand n >>> Constants.standard.expand.dropSix) % 64 = n := by decide

/-- A 16-bit word is its three channels, each at its place. -/
theorem fields565_join (h : Half) :
    BitVec.ofNat 16 (field h 11 5 <<< 11 ||| field h 5 6 <<< 5 ||| field h 0 5 <<< 0) = h := by
  have hblue : field h 0 5 <<< 0 < 2 ^ 5 := field_lt h 0 5
  have hgreen : field h 5 6 <<< 5 + field h 0 5 <<< 0 < 2 ^ 11 := by
    have := field_lt h 5 6
    rw [Nat.shiftLeft_eq]
    omega
  rw [Nat.or_assoc, ← Nat.shiftLeft_add_eq_or_of_lt hblue, ← Nat.shiftLeft_add_eq_or_of_lt hgreen]
  simp only [field, Nat.shiftLeft_eq, Nat.shiftRight_eq_div_pow]
  bv_omega

/-- The places of the 5-6-5 channels and the steps to bytes and back are the stated ones. -/
structure Stated565 (k : Constants) : Prop where
  expand : k.expand = Constants.standard.expand
  lanes : k.lanes = Constants.standard.lanes
  pixel : k.pixel = Constants.standard.pixel

theorem Stated565.pack565_expanded {k : Constants} (hk : Stated565 k) (h : Half) :
    pack565 k (x5to8 k.expand (field h 11 5)) (x6to8 k.expand (field h 5 6)) (x5to8 k.expand (field h 0 5)) = h := by
  unfold pack565
  simp only [hk.expand, hk.pixel, x5to8_drop _ (field_lt h _ 5), x6to8_drop _ (field_lt h _ 6)]
  exact fields565_join h

/-! ## The pixel of a half (R361, R365) -/

/-- A pixel with a colour alone. -/
structure LfbPixel.ColourOnly (p : LfbPixel) : Prop where
  rgb : p.hasRgb = true
  alpha : p.hasAlpha = false
  depth : p.hasDepth = false

theorem LfbPixel.ColourOnly.present {p : LfbPixel} (hp : p.ColourOnly) : p.present = true := by
  simp [LfbPixel.present, hp.rgb]

/-- The pixel that format 0 makes of a half. -/
def lfbPixel565 (k : Constants) (lanes : Nat) (za : Word) (h : Half) : LfbPixel :=
  lfbExtract16 k .rgb565 lanes h (lfbDefault k za)

theorem lfbPixel565_eq {k : Constants} {lanes : Nat} (hlanes : lanes % 2 = 0) (za : Word) (h : Half) :
    lfbPixel565 k lanes za h = { lfbDefault k za with
      hasRgb := true, r := x5to8 k.expand (field h k.lanes.rgb565.r 5), g := x6to8 k.expand (field h k.lanes.rgb565.g 6),
      b := x5to8 k.expand (field h k.lanes.rgb565.b 5) } := by
  simp [lfbPixel565, lfbExtract16, hlanes]

theorem lfbPixel565_colourOnly {k : Constants} {lanes : Nat} (hlanes : lanes % 2 = 0) (za : Word) (h : Half) :
    (lfbPixel565 k lanes za h).ColourOnly := by
  rw [lfbPixel565_eq hlanes]
  exact ⟨rfl, rfl, rfl⟩

/-- Without dithering the pixel's word is the half it came from. -/
theorem Stated565.word {k : Constants} (hk : Stated565 k) {lanes : Nat} (hlanes : lanes % 2 = 0) {fbz : Word}
    (hdither : FbzMode.enableDithering fbz = false) (za : Word) (h : Half) (x y : Nat) :
    dither565 k fbz (lfbPixel565 k lanes za h).r (lfbPixel565 k lanes za h).g (lfbPixel565 k lanes za h).b x y = h := by
  unfold dither565
  rw [if_neg (by simp [hdither]), lfbPixel565_eq hlanes]
  simp only [hk.lanes]
  exact hk.pack565_expanded h

theorem lfbPrepare_plain {mode : Word} (hword : LfbMode.wordSwapWrites mode = false)
    (hbyte : LfbMode.byteSwizzleWrites mode = false) (v : Word) (m : BitVec 4) :
    lfbPrepare mode v m = { d := v, m := m } := by
  simp [lfbPrepare, hword, hbyte]

/-- A whole word in format 0: the pixels of its two halves, both enabled (R362, R364). -/
theorem lfbDecode_565 {k : Constants} {mode : Word} (hformat : LfbMode.writeFormat k mode = 0)
    (hparts : k.parts = Constants.standard.parts) (v za : Word) : lfbDecode k mode { d := v, m := 0xF } za =
      some (.pair (lfbPixel565 k (LfbMode.lanes k mode) za (v.extractLsb' 0 16))
        (lfbPixel565 k (LfbMode.lanes k mode) za (v.extractLsb' 16 16))) := by
  have hlo : ∀ p : LfbData, p.m = 0xF → p.loOn Constants.standard.parts = true := fun p hm => by
    unfold LfbData.loOn
    rw [hm]
    decide
  have hhi : ∀ p : LfbData, p.m = 0xF → p.hiOn Constants.standard.parts = true := fun p hm => by
    unfold LfbData.hiOn
    rw [hm]
    decide
  simp only [lfbDecode, hformat, lfbColourPair, hparts, hlo ⟨v, 0xF⟩ rfl, hhi ⟨v, 0xF⟩ rfl]
  rfl

/-! ## The words of the two pixels (R367) -/

/-- Raw colour writes are on. -/
def rawColourOn (s : State) : Prop :=
  FbzMode.rgbBufferMask (s.reg 0 Reg.fbzMode) = true ∨ s.config.lfbRawMasks = false

theorem lfbRawPixel_colourOnly {s : State} (hon : rawColourOn s) {p : LfbPixel} (hp : p.ColourOnly) (base : Option Word)
    (x y : Nat) : lfbRawPixel base x y p s = count .pixelsOut
      (bufferWrite base x (lfbRow s y) (dither565 s.config.constants (s.reg 0 Reg.fbzMode) p.r p.g p.b x y) s) := by
  have hcolour : (p.hasRgb && (FbzMode.rgbBufferMask (s.reg 0 Reg.fbzMode) || !s.config.lfbRawMasks)) = true := by
    obtain h | h := hon <;> simp [hp.rgb, h]
  have haux : ∀ u, rawAux x y p u = u := fun u => by simp [rawAux, hp.alpha, hp.depth]
  unfold lfbRawPixel rawColour
  rw [haux]
  simp only [hcolour, if_true]

/-- The address of the word of pixel (x, y) of a raw write or a read, in a buffer at `b` (R367, R371). -/
def lfbAddress (s : State) (b : Word) (x y : Nat) : Nat := b.toNat + pixelOffset s.fbi x (lfbRow s y)

theorem lfbAddress_succ (s : State) (b : Word) (x y : Nat) : lfbAddress s b (x + 1) y = lfbAddress s b x y + 2 := rfl

namespace FillFrame

variable {s w : State} {p : LfbPixel} {b : Word} {x y : Nat}

theorem lfbAddress_eq (h : FillFrame s w) (b : Word) (x y : Nat) : lfbAddress w b x y = lfbAddress s b x y :=
  (congrArg (lfbAddress · b x y) h.eq :)

theorem rawColourOn_iff (h : FillFrame s w) : rawColourOn w ↔ rawColourOn s := by
  rw [h.eq]
  rfl

/-- The dithered word is that of the modes before the write. -/
theorem dither565_eq (h : FillFrame s w) : dither565 w.config.constants (w.reg 0 Reg.fbzMode) =
    dither565 s.config.constants (s.reg 0 Reg.fbzMode) := by
  rw [h.eq]
  rfl

theorem rawPixel (h : FillFrame s w) (hon : rawColourOn s) (hp : p.ColourOnly) :
    FillFrame s (lfbRawPixel (some b) x y p w) := by
  rw [lfbRawPixel_colourOnly (h.rawColourOn_iff.mpr hon) hp]
  exact (h.write _ _ _ _).setStats _

theorem rawPixel_word (h : FillFrame s w) (hon : rawColourOn s) (hp : p.ColourOnly)
    (hfit : lfbAddress s b x y + 1 ≤ s.fbi.mask.toNat) :
    fbWord (lfbAddress s b x y) (lfbRawPixel (some b) x y p w).fbi =
      dither565 s.config.constants (s.reg 0 Reg.fbzMode) p.r p.g p.b x y := by
  have hmask : w.fbi.mask = s.fbi.mask := (congrArg Fbi.mask h.fbi_eq :)
  rw [← h.lfbAddress_eq, ← hmask] at hfit
  rw [lfbRawPixel_colourOnly (h.rawColourOn_iff.mpr hon) hp, h.dither565_eq, ← h.lfbAddress_eq]
  exact bufferWrite_word h.wf _ hfit

/-- A raw pixel leaves the words before its own. -/
theorem rawPixel_word_before (h : FillFrame s w) (hon : rawColourOn s) (hp : p.ColourOnly) {a : Nat}
    (ha : a + 2 ≤ lfbAddress s b x y) : fbWord a (lfbRawPixel (some b) x y p w).fbi = fbWord a w.fbi := by
  have hfree : ∀ j, j ≤ a + 1 → ¬ ownsByte w.fbi (some b) x (lfbRow w y) j := by
    rw [← h.lfbAddress_eq] at ha
    unfold lfbAddress at ha
    rintro j hj (rfl | rfl) <;> omega
  rw [lfbRawPixel_colourOnly (h.rawColourOn_iff.mpr hon) hp]
  exact fbWord_of_sameWord ⟨bufferWrite_read_other (hfree a (by omega)), bufferWrite_read_other (hfree _ le_rfl)⟩

end FillFrame

/-- The raw pixels of two halves leave the halves side by side in RAM (R363, R367). -/
theorem lfbPixels_565_words {s : State} (hram : s.fbi.ram.wf = true) (hon : rawColourOn s)
    (hk : Stated565 s.config.constants) (hdither : FbzMode.enableDithering (s.reg 0 Reg.fbzMode) = false) {lanes : Nat}
    (hlanes : lanes % 2 = 0) (za : Word) (first second : Half) {b offset : Word}
    (hfit : lfbReadAddress s b offset + 3 ≤ s.fbi.mask.toNat) {t : State}
    (ht : t = lfbPixels false (some b) offset (.pair (lfbPixel565 s.config.constants lanes za first)
      (lfbPixel565 s.config.constants lanes za second)) s) :
    fbWord (lfbReadAddress s b offset) t.fbi = first ∧ fbWord (lfbReadAddress s b offset + 2) t.fbi = second := by
  have hcolour := fun h => lfbPixel565_colourOnly (k := s.config.constants) hlanes za h
  have hraw : ∀ h x y u, lfbPixel false (some b) x y (lfbPixel565 s.config.constants lanes za h) u =
      lfbRawPixel (some b) x y (lfbPixel565 s.config.constants lanes za h) u := fun h x y u => by
    simp [lfbPixel, (hcolour h).present]
  simp only [lfbPixels, hraw] at ht
  subst ht
  have hstart := FillFrame.refl hram
  generalize hpos : lfbPairPosition s.config.constants offset = pos
  have haddr : lfbReadAddress s b offset = lfbAddress s b pos.x pos.y := hpos ▸ rfl
  have hfirst : FillFrame s (lfbRawPixel (some b) pos.x pos.y (lfbPixel565 s.config.constants lanes za first) s) :=
    hstart.rawPixel hon (hcolour first)
  rw [haddr] at hfit ⊢
  constructor
  · rw [hfirst.rawPixel_word_before hon (hcolour second) (by rw [lfbAddress_succ]),
      hstart.rawPixel_word hon (hcolour first) (by omega), hk.word hlanes hdither]
  · rw [← lfbAddress_succ, hfirst.rawPixel_word hon (hcolour second) (by rw [lfbAddress_succ]; omega),
      hk.word hlanes hdither]

/-! ## The read after the write (R371) -/

/-- A write and a read of the same colour buffer find the same one (R366, R371). -/
theorem lfbTarget_of_readBase {k : Constants} {mode : Word} (hw : LfbMode.writeBuffer k mode < 2)
    (hr : LfbMode.readBuffer k mode = LfbMode.writeBuffer k mode) (f : Fbi) :
    ∃ buf, lfbTarget k mode f = some buf ∧ lfbReadBase k mode f = f.rgb buf := by
  unfold lfbTarget lfbReadBase
  rw [hr]
  generalize LfbMode.writeBuffer k mode = n at hw
  interval_cases n
  · exact ⟨_, rfl, rfl⟩
  · exact ⟨_, rfl, rfl⟩

namespace DrawKeeps

variable {s t : State}

theorem lfbReadBase (h : DrawKeeps s t) : lfbReadBase t.config.constants (t.reg 0 Reg.lfbMode) t.fbi =
    lfbReadBase s.config.constants (s.reg 0 Reg.lfbMode) s.fbi := by
  rw [h.config, h.lfbMode, h.fbi]
  rfl

theorem lfbReadAddress (h : DrawKeeps s t) (b offset : Word) :
    lfbReadAddress t b offset = lfbReadAddress s b offset := by
  unfold Machine.lfbReadAddress
  simp only [h.lfbRow]
  rw [h.config, h.fbi]
  rfl

/-- What a read finds after a draw: the words of the new RAM at the old place. -/
theorem lfbReadWord_eq (h : DrawKeeps s t) {b offset : Word}
    (hb : Machine.lfbReadBase s.config.constants (s.reg 0 Reg.lfbMode) s.fbi = some b)
    (hfit : Machine.lfbReadAddress s b offset + 3 ≤ s.fbi.mask.toNat) :
    lfbReadWord offset t = lfbReadSwap (s.reg 0 Reg.lfbMode) (joinHalves s.config.constants.parts
      (fbWord (Machine.lfbReadAddress s b offset) t.fbi) (fbWord (Machine.lfbReadAddress s b offset + 2) t.fbi)) := by
  have hmask : t.fbi.mask = s.fbi.mask := (congrArg Fbi.mask h.fbi :)
  rw [lfbReadWord_some (h.lfbReadBase.trans hb), h.lfbReadAddress, h.lfbMode, h.config, hmask,
    if_neg (Nat.not_lt.mpr hfit)]

end DrawKeeps

theorem lfbReadSwap_plain {mode : Word} (hword : LfbMode.wordSwapReads mode = false)
    (hbyte : LfbMode.byteSwizzleReads mode = false) (d : Word) : lfbReadSwap mode d = d := by
  simp [lfbReadSwap, hword, hbyte]

/-- The two halves of a word at the stated places make the word. -/
theorem joinHalves_extract {k : WordParts} (hk : k = Constants.standard.parts) (v : Word) :
    joinHalves k (v.extractLsb' 0 16) (v.extractLsb' 16 16) = v := by
  subst hk
  have hplaces : joinHalves Constants.standard.parts (v.extractLsb' 0 16) (v.extractLsb' 16 16) =
      (v.extractLsb' 0 16).setWidth 32 <<< 0 ||| (v.extractLsb' 16 16).setWidth 32 <<< 16 := rfl
  rw [hplaces]
  apply BitVec.eq_of_getLsbD_eq
  intro i hi
  by_cases hlow : i < 16
  · simp [hlow, hi]
  · have hhigh : i - 16 < 16 ∧ 16 + (i - 16) = i := by omega
    simp [hlow, hi, hhigh]

/-- Settles O47: the pixels of the two halves leave the halves in RAM, and the read joins them. -/
theorem lfbRawRoundTrip : Obligations.LfbRawRoundTrip := by
  intro offset v b s hf hram mode fbz hraw hformat hlanes hwordW hbyteW hwordR hbyteR hbuffer hsame hexpand hlanePlaces
    hpixel hparts hdither hon hb hfit
  obtain ⟨buf, htarget, hbase⟩ := lfbTarget_of_readBase hbuffer hsame s.fbi
  have hdecode := lfbDecode_565 hformat hparts v (s.reg 0 Reg.zaColor)
  rw [← lfbPrepare_plain hwordW hbyteW] at hdecode
  have hwrite := (LfbDraws.mk hdecode htarget).lfbWrite_eq offset
  rw [hraw, ← hbase, hb] at hwrite
  have hkeeps := lfbWrite_keeps hwrite
  obtain ⟨hfirst, hsecond⟩ := lfbPixels_565_words hram hon ⟨hexpand, hlanePlaces, hpixel⟩ hdither hlanes
    (s.reg 0 Reg.zaColor) (v.extractLsb' 0 16) (v.extractLsb' 16 16) hfit rfl
  refine ⟨_, (exec_lfbWr hf offset v 0xF).trans hwrite, _, exec_lfbRd (hkeeps.fatal.trans hf) offset, congrArg some ?_⟩
  rw [hkeeps.lfbReadWord_eq hb hfit, lfbReadSwap_plain hwordR hbyteR]
  exact (congrArg₂ (joinHalves _) hfirst hsecond).trans (joinHalves_extract hparts v)

end Sys2Proof.Machine
end

section
/-! SUPPORT. The fields of a layout as functions of the init registers, and the indices of the buffers after one swap and
after a round of swaps (R380, R381, R383, R386, R388; O26, O31). -/

namespace Sys2Proof.Machine

open Sys2Proof

/-! ## What the registers say (R380, R381) -/

theorem clampOffset_eq_min (mask : Word) (o : Nat) : clampOffset mask o = BitVec.ofNat 32 (min o mask.toNat) := by
  unfold clampOffset
  split
  case isTrue h => rw [Nat.min_eq_right h.le, BitVec.ofNat_toNat, BitVec.setWidth_eq]
  case isFalse h => rw [Nat.min_eq_left (Nat.le_of_not_lt h)]

theorem bufferConfig_eq (s : State) : bufferConfig s =
    if s.isV2 = true ∧ FbiInit2.enableTripleBuf s.config.constants (s.reg 0 Reg.fbiInit2) = 0 then
      FbiInit5.bufferAllocation s.config.constants (s.reg 0 Reg.fbiInit5)
    else FbiInit2.enableTripleBuf s.config.constants (s.reg 0 Reg.fbiInit2) := by
  simp only [bufferConfig, Bool.and_eq_true, decide_eq_true_eq]

theorem tileCount_v1 {s : State} (h : s.isV2 = false) :
    tileCount s = FbiInit1.xVideoTiles s.config.constants (s.reg 0 Reg.fbiInit1) :=
  if_neg (ne_true_of_eq_false h)

theorem tileCount_v2 {s : State} (h : s.isV2 = true) : tileCount s =
    FbiInit1.xVideoTiles s.config.constants (s.reg 0 Reg.fbiInit1) <<< s.config.constants.tiles.count |||
      FbiInit1.xVideoTilesBit5 s.config.constants (s.reg 0 Reg.fbiInit1) <<< s.config.constants.tiles.bit5 |||
      FbiInit6.xVideoTilesBit0 s.config.constants (s.reg 0 Reg.fbiInit6) <<< s.config.constants.tiles.bit0 :=
  if_pos h

/-! ## The layout -/

/-- Apart from the two buffer indices and the FIFO, a layout is its buffers and its tiles. -/
theorem layoutOf_eq_tiles (s : State) (f : Fbi) : layoutOf s f = { layoutTiles s (layoutBuffers s f) with
    frontbuf := (layoutOf s f).frontbuf, backbuf := (layoutOf s f).backbuf,
    fifoBase := (layoutOf s f).fifoBase, fifoWords := (layoutOf s f).fifoWords } := by
  have hfifo : ∀ g : Fbi, layoutFifo s g =
      { g with fifoBase := (layoutFifo s g).fifoBase, fifoWords := (layoutFifo s g).fifoWords } := fun _ =>
    layoutFifo_eq s rfl
  unfold layoutOf
  rw [layoutIndices_eq, hfifo]
  rfl

/-- The layout reads the configuration and seven of the eight init registers: fbiInit7 has no part in it (R383). -/
theorem layoutOf_congr_seven {s t : State} (hc : s.config = t.config)
    (hr : ∀ i ∈ [0x80, 0x84, 0x85, 0x86, 0x87, 0x91, 0x92], s.reg 0 i = t.reg 0 i) : layoutOf s = layoutOf t := by
  funext f
  unfold layoutOf layoutFifo layoutTiles layoutBuffers bufferConfig tileCount State.isV2
  simp only [hc, hr Reg.fbiInit0 (by decide), hr Reg.fbiInit1 (by decide), hr Reg.fbiInit2 (by decide),
    hr Reg.fbiInit3 (by decide), hr Reg.fbiInit4 (by decide), hr Reg.fbiInit5 (by decide), hr Reg.fbiInit6 (by decide)]

/-- Settles O26: the fields of the layout one by one, its fixed point, and the registers it reads. -/
theorem layoutFollowsTheInitRegisters : Obligations.LayoutFollowsTheInitRegisters := by
  refine ⟨fun s f => ?_, fun s t f hc hr => congrFun (layoutOf_congr_seven hc hr) f, fun v => ?_, rfl, rfl⟩
  · have hlayout := layoutOf_eq_tiles s f
    have hclamp : clampOffset f.mask = fun o => BitVec.ofNat 32 (min o f.mask.toNat) :=
      funext (clampOffset_eq_min f.mask)
    unfold layoutBuffers at hlayout
    rw [hclamp, bufferConfig_eq] at hlayout
    exact ⟨congrArg Fbi.rgb0 hlayout, congrArg Fbi.rgb1 hlayout, congrArg Fbi.rgb2 hlayout, congrArg Fbi.auxoffs hlayout,
      congrArg Fbi.rowpixels hlayout, tileCount_v1, tileCount_v2, congrArg Fbi.yorigin hlayout,
      layoutOf_ram s f, layoutOf_idem s f⟩
  · exact ⟨readField_run _ _ v, readField_run _ _ v, readField_run _ _ v, readField_run _ _ v, readField_run _ _ v,
      readField_run _ _ v, readField_run _ _ v⟩

/-! ## One rotation (R386, R388) -/

theorem rotateBuffers_rgb2 (f : Fbi) : (rotateBuffers f).rgb2 = f.rgb2 := by
  obtain ⟨i, j, hrot, -⟩ := rotateBuffers_eq f
  rw [hrot]

theorem rotateBuffers_ram (f : Fbi) : (rotateBuffers f).ram = f.ram := by
  obtain ⟨i, j, hrot, -⟩ := rotateBuffers_eq f
  rw [hrot]

theorem rotateBuffers_indicesOk (f : Fbi) : (rotateBuffers f).indicesOk = true := by
  obtain ⟨i, j, hrot, hij⟩ := rotateBuffers_eq f
  rw [hrot, hij]

/-- The swap count has no part in a rotation. -/
theorem rotateBuffers_swapCount (f : Fbi) (n : Word) :
    rotateBuffers { f with swapCount := n } = { rotateBuffers f with swapCount := n } := by
  unfold rotateBuffers
  cases f.rgb2 <;> rfl

/-- Two buffers that differ change places (R386). -/
theorem rotateBuffers_exchange {f : Fbi} (hn : f.rgb2 = none) (hi : f.indicesOk = true) (hne : f.frontbuf ≠ f.backbuf) :
    (rotateBuffers f).frontbuf = f.backbuf ∧ (rotateBuffers f).backbuf = f.frontbuf := by
  obtain ⟨hfront, hback⟩ := rotateBuffers_two hn hi
  have hbound : f.frontbuf ≠ 2 ∧ f.backbuf ≠ 2 := by simpa [Fbi.indicesOk, hn] using hi
  omega

/-- Three buffers move on by one, the back buffer next after the front buffer (R386). -/
theorem rotateBuffers_advance {f : Fbi} (hn : f.rgb2 ≠ none) :
    (rotateBuffers f).frontbuf = f.frontbuf + 1 ∧ (rotateBuffers f).backbuf = f.frontbuf + 1 + 1 := by
  obtain ⟨hfront, hback⟩ := rotateBuffers_three hn
  have hadvance : (rotateBuffers f).frontbuf = f.frontbuf + 1 := Fin.ext hfront
  exact ⟨hadvance, hadvance ▸ Fin.ext hback⟩

/-- A rotation leaves two buffers different, whatever they were (R388). -/
theorem rotateBuffers_separate (f : Fbi) : (rotateBuffers f).frontbuf ≠ (rotateBuffers f).backbuf := by
  cases hn : f.rgb2 with
  | none =>
    unfold rotateBuffers
    rw [hn]
    show (if f.frontbuf = 0 then (1 : Fin 3) else 0) ≠ if f.frontbuf = 0 then 0 else 1
    split <;> decide
  | some _ =>
    obtain ⟨hfront, hback⟩ := rotateBuffers_advance (f := f) (by simp [hn])
    have hnext : ∀ i : Fin 3, i + 1 ≠ i + 1 + 1 := by decide
    rw [hfront, hback]
    exact hnext _

/-- Two exchanges give back two buffers (R388). -/
theorem rotateBuffers_twice {f : Fbi} (hn : f.rgb2 = none) (hi : f.indicesOk = true) (hne : f.frontbuf ≠ f.backbuf) :
    (rotateBuffers (rotateBuffers f)).frontbuf = f.frontbuf ∧ (rotateBuffers (rotateBuffers f)).backbuf = f.backbuf := by
  obtain ⟨hfront, hback⟩ := rotateBuffers_exchange hn hi hne
  have hagain := rotateBuffers_exchange ((rotateBuffers_rgb2 f).trans hn) (rotateBuffers_indicesOk f)
    (rotateBuffers_separate f)
  rwa [hfront, hback] at hagain

/-- Three steps of one go round the three buffers (R388). -/
theorem rotateBuffers_thrice {f : Fbi} (hn : f.rgb2 ≠ none) (hnext : f.backbuf = f.frontbuf + 1) :
    (rotateBuffers (rotateBuffers (rotateBuffers f))).frontbuf = f.frontbuf ∧
      (rotateBuffers (rotateBuffers (rotateBuffers f))).backbuf = f.backbuf := by
  have hround : ∀ i : Fin 3, i + 1 + 1 + 1 = i := by decide
  have hn1 : (rotateBuffers f).rgb2 ≠ none := by rwa [rotateBuffers_rgb2]
  have hn2 : (rotateBuffers (rotateBuffers f)).rgb2 ≠ none := by rwa [rotateBuffers_rgb2]
  obtain ⟨hfront, hback⟩ := rotateBuffers_advance hn2
  rw [(rotateBuffers_advance hn1).1, (rotateBuffers_advance hn).1, hround] at hfront hback
  exact ⟨hfront, hback.trans hnext.symm⟩

/-! ## A round of swaps (R386, R388) -/

/-- A swap that is carried out turns the buffers and clears the count (R386). -/
theorem swapBuffers_fbi {v : Word} {s : State} (h : noSwap v s = false) :
    (swapBuffers v s).fbi = { rotateBuffers s.fbi with swapCount := 0 } := by
  simp only [swapBuffers_eq, h, Bool.false_eq_true, if_false]

/-- A swap after a swap: the count that the first one cleared does not matter. -/
theorem swapBuffers_fbi_of_count {v n : Word} {s : State} {f : Fbi} (h : noSwap v s = false)
    (hf : s.fbi = { f with swapCount := n }) : (swapBuffers v s).fbi = { rotateBuffers f with swapCount := 0 } := by
  rw [swapBuffers_fbi h, hf, rotateBuffers_swapCount]

/-- Whether a command swaps is a matter of the configuration, which a swap leaves. -/
theorem noSwap_swapBuffers (v w : Word) (s : State) : noSwap v (swapBuffers w s) = noSwap v s := rfl

theorem swapBuffers_ram (v : Word) (s : State) : (swapBuffers v s).fbi.ram = s.fbi.ram := by
  rw [swapBuffers_eq]
  split
  · rfl
  · exact rotateBuffers_ram s.fbi

/-- Settles O31: two exchanges, or three steps of one round the three, are the identity; one of either separates. -/
theorem swapsRestoreAndSeparateTheBuffers : Obligations.SwapsRestoreAndSeparateTheBuffers := by
  refine ⟨fun v s hn hi hne hv => ?_, fun v s hn hback hv => ?_, fun v s => ⟨swapBuffers_ram v s, fun hv => ?_⟩⟩
  · have honce := swapBuffers_fbi hv
    have htwice := swapBuffers_fbi_of_count ((noSwap_swapBuffers v v s).trans hv) honce
    rw [htwice]
    exact rotateBuffers_twice hn hi hne
  · have honce := swapBuffers_fbi hv
    have hv1 : noSwap v (swapBuffers v s) = false := (noSwap_swapBuffers v v s).trans hv
    have htwice := swapBuffers_fbi_of_count hv1 honce
    have hthrice := swapBuffers_fbi_of_count ((noSwap_swapBuffers v v _).trans hv1) htwice
    rw [hthrice]
    exact rotateBuffers_thrice hn hback
  · rw [swapBuffers_fbi hv]
    exact rotateBuffers_separate s.fbi

end Sys2Proof.Machine
end

section
/-! SUPPORT. Why an operation stops: the refusals of a fetch, the fatal reason of a triangle, and every operation's answer
from a state that is not fatal (R402, R403; O59). -/

namespace Sys2Proof.Machine

open Sys2Proof

/-! ## Answers by their causes (R400, R402, R403) -/

/-- An answer that is no fault: its next state runs on or has entered the fatal state for a reason in `F`, and its
refusal is in `R`. -/
inductive Ends (F : FatalReason → Prop) (R : Refusal → Prop) : Answer → Prop where
  | running {t : State} (h : t.fatal = none) : Ends F R (.next t)
  | stopped {t : State} {r : FatalReason} (h : t.fatal = some r) (hr : F r) : Ends F R (.next t)
  | refused {r : Refusal} (hr : R r) : Ends F R (.refused r)

/-- No reason to stop. -/
def NoReason (_ : FatalReason) : Prop := False

namespace Ends

variable {F F' : FatalReason → Prop} {R R' : Refusal → Prop} {o : Answer}

theorem mono (h : Ends F R o) (hF : ∀ r, F r → F' r) (hR : ∀ r, R r → R' r) : Ends F' R' o := by
  cases h with
  | running h => exact .running h
  | stopped h hr => exact .stopped h (hF _ hr)
  | refused hr => exact .refused (hR _ hr)

theorem ne_fault (h : Ends F R o) (r : Fault) : o ≠ .fault r := by
  cases h <;> exact nofun

theorem fatal_cause (h : Ends F R o) {t : State} {r : FatalReason} (ho : o = .next t) (ht : t.fatal = some r) : F r := by
  cases h with
  | running h => cases ho; cases h.symm.trans ht
  | stopped h hr => cases ho; cases h.symm.trans ht; exact hr
  | refused hr => cases ho

theorem refusal_cause (h : Ends F R o) {r : Refusal} (ho : o = .refused r) : R r := by
  cases h with
  | running h => cases ho
  | stopped h hr => cases ho
  | refused hr => cases ho; exact hr

theorem andThen {k : State → Answer} (h : Ends NoReason R o) (hk : ∀ s, s.fatal = none → Ends F R (k s)) :
    Ends F R (Machine.andThen o k) := by
  cases h with
  | running h => exact hk _ h
  | stopped h hr => exact hr.elim
  | refused hr => exact .refused hr

theorem forRange {k : Nat → State → Answer} (hk : ∀ i s, s.fatal = none → Ends NoReason R (k i s)) (n i : Nat) {s : State}
    (hs : s.fatal = none) : Ends NoReason R (Machine.forRange n i k s) := by
  induction n generalizing i s with
  | zero => exact .running hs
  | succ n ih => exact (hk i s hs).andThen fun _ ht => ih (i + 1) ht

end Ends

/-! ## A refused fetch (R194, R305, R403) -/

/-- The two refusals of a texel fetch. -/
def FetchRefused (r : Refusal) : Prop := r = .badTextureFormat ∨ r = .lodOutOfRange

theorem fetchRefusal_some {t : Tmu} {k : TexCoord} {r : Refusal} (h : fetchRefusal t k = some r) : FetchRefused r := by
  unfold fetchRefusal at h
  split at h
  · cases h
    exact .inr rfl
  · split at h
    · cases h
      exact .inl rfl
    · cases h

theorem textureStep_error {u x y : Nat} {it : UnitIter} {o : Argb} {s : State} {r : Refusal}
    (h : textureStep u x y it o s = .error r) : FetchRefused r := by
  unfold textureStep texUnit at h
  simp only [] at h
  split at h
  · split at h
    · rename_i hfetch
      cases h
      exact fetchRefusal_some hfetch
    · cases h
  · cases h

theorem textureStage_error {n x y : Nat} {it0 it1 : UnitIter} {s : State} {r : Refusal}
    (h : textureStage n x y it0 it1 s = .error r) : FetchRefused r := by
  have hpass : ∀ {p : Prop} [Decidable p] {u : Nat} {it : UnitIter} {o : Argb} {s : State} {r : Refusal},
      (if p then textureStep u x y it o s else .ok (o, s)) = Except.error r → FetchRefused r := by
    intro p _ u it o s r he
    split at he
    · exact textureStep_error he
    · cases he
  unfold textureStage at h
  simp only [] at h
  split at h
  · rename_i hfirst
    cases h
    exact hpass hfirst
  · exact hpass h

/-! ## A triangle (R230, R233, R241–R243, R274, R290) -/

/-- A pixel stops at a refused fetch alone. -/
theorem pixel_ends (n x y : Nat) (it : PixelIter) (it0 it1 : UnitIter) {s : State} (hs : s.fatal = none) :
    Ends NoReason FetchRefused (pixel n x y it it0 it1 s) := by
  cases hp : pixel n x y it it0 it1 s with
  | next t => exact .running ((pixel_next hp).1.fatal.trans hs)
  | fault r =>
    unfold pixel at hp
    split at hp
    · cases hp
    · split at hp <;> cases hp
  | refused r =>
    unfold pixel at hp
    split at hp
    · cases hp
    · split at hp
      · rename_i hstage
        cases hp
        exact .refused (textureStage_error hstage)
      · cases hp

theorem rasterize_ends (n : Snapshot) {s : State} (hs : s.fatal = none) :
    Ends NoReason FetchRefused (rasterize n s) :=
  Ends.forRange (fun _ _ hrow => Ends.forRange (fun _ _ hpix => pixel_ends _ _ _ _ _ _ hpix) _ _ hrow) _ _ hs

theorem adjusted_fatal (s : State) : (adjusted s).fatal = s.fatal := (congrArg State.fatal (adjusted_eq s) :)

/-- A submission stops at a full cache or at a refused fetch. -/
theorem submitTriangle_ends {s : State} (hs : s.fatal = none) :
    Ends (· = .cacheOverflow) FetchRefused (submitTriangle s) := by
  have hadj : (adjusted s).fatal = none := (adjusted_fatal s).trans hs
  by_cases hbuf : 2 ≤ FbzMode.drawBuffer s.config.constants (s.reg 0 Reg.fbzMode)
  · rw [submitTriangle_reserved hbuf]
    exact .running hadj
  · by_cases hroom : s.cacheRoom
    · obtain ⟨c, hdraw⟩ := submitTriangle_room (not_le.mp hbuf) hroom
      rw [hdraw]
      exact (rasterize_ends _ (s := { adjusted s with cache := c }) hadj).andThen fun _ ht => .running ht
    · rw [submitTriangle_full (not_le.mp hbuf) hroom]
      exact .stopped rfl rfl

theorem appendStrip_ends {s : State} (hs : s.fatal = none) :
    Ends (· = .cacheOverflow) FetchRefused (appendStrip s) := by
  unfold appendStrip setupAndDraw
  simp only []
  split
  · split
    · exact .running hs
    · split
      · exact submitTriangle_ends hs
      · exact submitTriangle_ends hs
  · exact .running hs

/-! ## Register writes (R130) -/

theorem ite_fatal {c : Prop} [Decidable c] {s t : State} (h : t.fatal = s.fatal) : (if c then t else s).fatal = s.fatal := by
  split
  · exact h
  · rfl

theorem onFbi_fatal (sel : Select) (change : Fbi → Fbi) (s : State) : (onFbi sel change s).fatal = s.fatal :=
  ite_fatal rfl

theorem forUnits_fatal (sel : Select) (change : Tmu → Tmu) (s : State) : (forUnits sel change s).fatal = s.fatal := by
  unfold forUnits
  cases sel.tmu0 <;> exact ite_fatal rfl

theorem storeBanks_fatal (sel : Select) (i : Nat) (v : Word) (s : State) : (storeBanks sel i v s).fatal = s.fatal :=
  (congrArg State.fatal (storeBanks_eq sel i v s) :)

theorem writeStored_fatal (n : Nat) (e : RegEffect) (sel : Select) (v : Word) (s : State) :
    (writeStored n e sel v s).fatal = s.fatal := by
  unfold writeStored
  split
  · rfl
  · exact storeBanks_fatal sel n v s

/-- No effect but the drawing of a triangle can enter the fatal state. -/
theorem RegEffect.change_fatal (e : RegEffect) (sel : Select) (v : Word) (s : State) :
    (e.change sel v s).fatal = s.fatal := by
  cases e with
  | stored | triangle | setupDraw | layout => rfl
  | vertex | vertexFloat | param | paramFloat | fogTable => exact onFbi_fatal _ _ s
  | tex | texFloat | ncc | texture => exact forUnits_fatal _ _ s
  | w | wFloat => exact (forUnits_fatal _ _ _).trans (onFbi_fatal _ _ s)
  | nop => exact ite_fatal (counterReset_fatal s _ _)
  | fastfill => exact ite_fatal (fastfill_keeps s).fatal
  | swap | setupBegin | setupArgb | dac => exact ite_fatal rfl
  | layoutReset => exact ite_fatal (s := recomputeLayout s) (counterReset_fatal _ _ _)

/-- The causes of a stop where `draws` says whether a triangle is drawn. -/
def CacheFull (draws : Prop) (r : FatalReason) : Prop := r = .cacheOverflow ∧ draws

/-- The causes of a refusal where `draws` says whether a triangle is drawn. -/
def TriangleRefused (draws : Prop) (r : Refusal) : Prop := FetchRefused r ∧ draws

theorem RegEffect.run_ends (e : RegEffect) (sel : Select) (v : Word) {s : State} (hs : s.fatal = none) :
    Ends (CacheFull e.DrawsTriangle) (TriangleRefused e.DrawsTriangle) (e.run sel v s) := by
  unfold RegEffect.run
  split
  · split
    · exact (submitTriangle_ends hs).mono (fun _ hr => ⟨hr, .inl rfl⟩) fun _ hr => ⟨hr, .inl rfl⟩
    · exact .running hs
  · split
    · exact (appendStrip_ends hs).mono (fun _ hr => ⟨hr, .inr rfl⟩) fun _ hr => ⟨hr, .inr rfl⟩
    · exact .running hs
  · exact .running ((RegEffect.change_fatal _ sel v s).trans hs)

/-- Of the four indices that draw, fastfillCMD alone draws no triangle. -/
theorem effectOf_drawsTriangle {n : Nat} (hn : n < 256) (h : (effectOf n).DrawsTriangle) : n ∈ commandSlots := by
  have hdraws : (effectOf n).draws = true := by
    obtain he | he := h <;> rw [he] <;> rfl
  have hfill : n ≠ 0x49 := by
    rintro rfl
    obtain he | he := h <;> cases he
  rw [effectOf_draws hn, decide_eq_true_eq] at hdraws
  simp only [commandSlots, List.mem_cons, List.not_mem_nil, or_false] at hdraws ⊢
  omega

/-- An accepted write ends as its side effect does, and a triangle is drawn at a command's index alone. -/
theorem regWrite_ends {n : Nat} (hn : n < 256) (k : BitVec 4) (v : Word) {s : State} (hs : s.fatal = none) :
    Ends (CacheFull (n ∈ commandSlots)) (TriangleRefused (n ∈ commandSlots)) (regWrite n (effectOf n) k v s) := by
  have hcmd := effectOf_drawsTriangle hn
  unfold regWrite
  rw [unlessFatal_none hs]
  split
  · exact .running hs
  · exact (RegEffect.run_ends _ _ v ((writeStored_fatal _ _ _ v s).trans hs)).mono (fun _ hr => hr.imp_right hcmd)
      fun _ hr => hr.imp_right hcmd

theorem writeMeaning_ends {n : Nat} (hn : n < 256) (k : BitVec 4) (v : Word) {s : State} (hs : s.fatal = none) :
    Ends (CacheFull (n ∈ commandSlots)) (TriangleRefused (n ∈ commandSlots)) (writeMeaning n k v s) := by
  unfold writeMeaning
  split
  · rw [reservedWrite_eq hs]
    exact .running hs
  · exact regWrite_ends hn k v hs

/-! ## The other operations -/

theorem textureRead_ends {F : FatalReason → Prop} {R : Refusal → Prop} (sel : Select) (n : Nat) {s : State}
    (hs : s.fatal = none) : Ends F R (textureRead sel n s) := by
  unfold textureRead
  split
  · exact .running hs
  · split
    · exact .running hs
    · exact .running hs

theorem regRead_ends {F : FatalReason → Prop} {R : Refusal → Prop} (n : Nat) (k : BitVec 4) {s : State}
    (hs : s.fatal = none) : Ends F R (regRead n k s) := by
  unfold regRead readValue
  rw [unlessFatal_none hs]
  split
  · iterate 5
      split
      · exact .running hs
    split
    · exact textureRead_ends _ n hs
    · exact .running hs
  · exact .running hs

theorem textureUpload_ends {F : FatalReason → Prop} (offset v : Word) {s : State} (hs : s.fatal = none) :
    Ends F (· = .directWrite) (textureUpload offset v s) := by
  have hfresh : (freshUnit (field offset 19 2) s).fatal = none := (freshUnit_keeps _ s).fatal.trans hs
  unfold textureUpload
  simp only []
  split
  · exact .running hs
  · split
    · exact .refused rfl
    · split
      · exact .running hs
      · exact .running ((State.setTmu_fatal _ _ _).trans hfresh)

/-- A RESET runs on where both sizes are supported and is fatal where one is not (R420). -/
theorem execReset_ends {R : Refusal → Prop} (c : Config) (q : ResetPolicy) (s : State) :
    Ends (fun r => r = .badMemorySize ∧ ¬ (supportedSize c.fbmemBytes = true ∧ supportedSize c.tmumemBytes = true)) R
      (execReset c q s) := by
  unfold execReset
  split
  · exact .running rfl
  · rename_i hsize
    exact .stopped rfl ⟨rfl, by simpa only [Bool.and_eq_true] using hsize⟩

/-! ## Every instruction (R402, R403) -/

/-- The instruction may submit a triangle: one of the three commands, or a write whose effective index is a command's
(R103). -/
def Instr.MaySubmit (i : Instr) (s : State) : Prop :=
  (∃ k v, i ∈ [Instr.triangleCMD k v, .ftriangleCMD k v, .sDrawTriCMD k v]) ∨
    ∃ offset v, i = .regWr offset v ∧ effectiveIndex s offset ∈ commandSlots

/-- Why the next state of an instruction may be fatal (R402). -/
def FatalCause (i : Instr) (s : State) (r : FatalReason) : Prop :=
  CacheFull (Instr.MaySubmit i s) r ∨ (r = .badMemorySize ∧ ∃ c q, i = .reset c q ∧
    ¬ (supportedSize c.fbmemBytes = true ∧ supportedSize c.tmumemBytes = true))

/-- Why an instruction may be refused (R403). -/
def RefusalCause (i : Instr) (s : State) (r : Refusal) : Prop :=
  (r = .directWrite ∧ ∃ offset v, i = .texWr offset v) ∨ TriangleRefused (Instr.MaySubmit i s) r

/-- A row of the table at a command's index is a triangle command (R108). -/
theorem writeRow_maySubmit {n : Nat} {row : BitVec 4 → Word → Instr} (hrow : writeRows[n]? = some row)
    (hn : n ∈ commandSlots) (k : BitVec 4) (v : Word) (s : State) : Instr.MaySubmit (row k v) s := by
  refine .inl ⟨k, v, ?_⟩
  simp only [commandSlots, List.mem_cons, List.not_mem_nil, or_false] at hn
  rcases hn with rfl | rfl | rfl <;> cases hrow <;> simp

/-- A write ends by the causes of its instruction where a command's index makes it one that may submit. -/
theorem Ends.of_write {n : Nat} {i : Instr} {s : State} {o : Answer} (hi : n ∈ commandSlots → Instr.MaySubmit i s)
    (h : Ends (CacheFull (n ∈ commandSlots)) (TriangleRefused (n ∈ commandSlots)) o) :
    Ends (FatalCause i s) (RefusalCause i s) o :=
  h.mono (fun _ hr => .inl (hr.imp_right hi)) fun _ hr => .inr (hr.imp_right hi)

/-- Every instruction ends by the named causes. -/
theorem exec_ends (i : Instr) {s : State} (hs : s.fatal = none) :
    Ends (FatalCause i s) (RefusalCause i s) (exec i s) := by
  obtain hbus | ⟨n, -, hread⟩ | ⟨n, row, k, v, -, hrow, rfl⟩ := instr_cases i
  · obtain ⟨o, v, rfl⟩ | ⟨o, rfl⟩ | ⟨o, v, m, rfl⟩ | ⟨o, rfl⟩ | ⟨o, v, rfl⟩ | ⟨v, rfl⟩ | ⟨c, q, rfl⟩ := hbus
    · exact (regWrite_ends (effectiveIndex_lt s o) (offsetChips o) v hs).of_write fun hn => .inr ⟨o, v, rfl, hn⟩
    · exact regRead_ends _ _ hs
    · rw [exec_lfbWr hs]
      obtain ⟨t, ht, -⟩ := lfbWrite_completes o v m s
      rw [ht]
      exact .running ((lfbWrite_keeps ht).fatal.trans hs)
    · rw [exec_lfbRd hs]
      exact .running hs
    · have hexec : exec (.texWr o v) s = textureUpload o v s := unlessFatal_none (k := textureUpload o v) hs
      rw [hexec]
      exact (textureUpload_ends o v hs).mono (fun _ hr => hr) fun _ hr => .inl ⟨hr, o, v, rfl⟩
    · rw [pciInitEnableSetsTheWord v s hs]
      exact .running hs
    · exact (execReset_ends c q s).mono (fun _ ⟨hr, hsize⟩ => .inr ⟨hr, c, q, rfl, hsize⟩) fun _ hr => hr
  · rw [hread]
    exact regRead_ends n 0 hs
  · rw [exec_writeRow hrow]
    exact (writeMeaning_ends n.isLt k v hs).of_write fun hn => writeRow_maySubmit hrow hn k v s

/-- Settles O59: what every instruction may end by, read off for faults, for fatal next states and for refusals. -/
theorem onlyTheNamedCausesStopTheChip : Obligations.OnlyTheNamedCausesStopTheChip := by
  intro i s hs
  have hends := exec_ends i hs
  exact ⟨hends.ne_fault, fun _ _ ht hr => hends.fatal_cause ht hr, fun _ hr => hends.refusal_cause hr⟩

end Sys2Proof.Machine
end

section
/-! SUPPORT. The state that RESET builds: the NCC coefficients of the twelve registers, what each policy supplies, the
units and the layout (R420, R421, R422, R423, R424; O55, O57). -/

namespace Sys2Proof.Machine

open Sys2Proof

/-! ## The coefficients of the NCC registers (R190, R421) -/

/-- An NCC table after the writes of the first `m` of its registers `r`. -/
def nccLoaded (k : TableFields) (r : Nat → Word) (m : Nat) : Ncc :=
  (List.range m).foldl (fun t n => nccCoefficient k n (r n) t) Ncc.zero

theorem nccLoaded_succ (k : TableFields) (r : Nat → Word) (m : Nat) :
    nccLoaded k r (m + 1) = nccCoefficient k m (r m) (nccLoaded k r m) := by
  simp only [nccLoaded, List.range_succ, List.foldl_append, List.foldl_cons, List.foldl_nil]

theorem nccFromRegisters_eq_loaded (k : TableFields) (regs : Memory 32) (bank base : Nat) :
    nccFromRegisters k regs bank base = nccLoaded k (fun n => regs.read (bank * 256 + base + n)) 12 := rfl

/-- A coefficient write leaves the table to be rebuilt (R189, R190). -/
theorem nccCoefficient_dirty (k : TableFields) (n : Nat) (data : Word) (t : Ncc) :
    (nccCoefficient k n data t).dirty = true := by
  unfold nccCoefficient
  split
  · rfl
  · split <;> rfl

theorem nccLoaded_dirty (k : TableFields) (r : Nat → Word) (m : Nat) : (nccLoaded k r m).dirty = true := by
  cases m with
  | zero => rfl
  | succ m => rw [nccLoaded_succ, nccCoefficient_dirty]

theorem nccLoaded_texel (k : TableFields) (r : Nat → Word) (m : Nat) : (nccLoaded k r m).texel = [] := by
  induction m with
  | zero => rfl
  | succ m ih => rw [nccLoaded_succ, nccCoefficient_texel, ih]

theorem nccLoaded_ok (k : TableFields) (r : Nat → Word) {m : Nat} (hm : m ≤ 12) : (nccLoaded k r m).ok = true := by
  induction m with
  | zero => exact (by decide : Ncc.zero.ok = true)
  | succ m ih =>
    rw [nccLoaded_succ]
    exact nccCoefficient_ok hm _ _ (ih (by omega))

/-- `Ncc.Holds` for the first `m` of the twelve registers. -/
structure Ncc.HoldsBelow (m : Nat) (k : TableFields) (n : Ncc) (r : Nat → Word) : Prop where
  luma : ∀ i b, i < m → i < 4 → b < 4 → n.y.read (4 * i + b) = (r i).extractLsb' (k.luma * b) 8
  i : ∀ j, 4 + j < m → j < 4 → n.ir.read j = (r (4 + j)).extractLsb' k.nccRed 9 ∧
    n.ig.read j = (r (4 + j)).extractLsb' k.nccGreen 9 ∧ n.ib.read j = (r (4 + j)).extractLsb' k.nccBlue 9
  q : ∀ j, 8 + j < m → j < 4 → n.qr.read j = (r (8 + j)).extractLsb' k.nccRed 9 ∧
    n.qg.read j = (r (8 + j)).extractLsb' k.nccGreen 9 ∧ n.qb.read j = (r (8 + j)).extractLsb' k.nccBlue 9

theorem Ncc.HoldsBelow.holds {k : TableFields} {n : Ncc} {r : Nat → Word} (h : n.HoldsBelow 12 k r) : n.Holds k r :=
  ⟨fun i b hi hb => h.luma i b (by omega) hi hb, fun j hj => h.i j (by omega) hj, fun j hj => h.q j (by omega) hj⟩

/-- A chroma channel that holds the registers `a` to `m - 1` holds register `m` too once it is written. -/
theorem chroma_read_write {c : Memory 9} (hc : c.inRange 4 = true) {a m j : Nat} (ha : a ≤ m) (hj : a + j < m + 1)
    (r : Nat → Word) (lo : Nat) (h : a + j < m → c.read j = (r (a + j)).extractLsb' lo 9) :
    (c.write (m - a) ((r m).extractLsb' lo 9)).read j = (r (a + j)).extractLsb' lo 9 := by
  rw [Memory.read_write (Memory.wf_of_inRange hc)]
  split
  case isTrue hlast => rw [show a + j = m by omega]
  case isFalse hother => exact h (by omega)

/-- The write of register `m` extends the registers that a table holds by one, in each of the three kinds (R190). -/
theorem Ncc.HoldsBelow.write {m : Nat} {k : TableFields} {n : Ncc} {r : Nat → Word} (h : n.HoldsBelow m k r)
    (hok : n.ok = true) (hm : m < 12) : (nccCoefficient k m (r m) n).HoldsBelow (m + 1) k r := by
  obtain ⟨hy, hir, hig, hib, hqr, hqg, hqb, -⟩ := (Ncc.ok_iff _).mp hok
  obtain h4 | ⟨h4, h8⟩ | h8 : m < 4 ∨ (4 ≤ m ∧ m < 8) ∨ 8 ≤ m := by omega
  · rw [nccCoefficient_luma h4]
    refine ⟨fun i b hi hi4 hb => ?_, fun j hj => by omega, fun j hj => by omega⟩
    rw [nccLuma_read (Memory.wf_of_inRange hy), show (4 * i + b) / 4 = i by omega, show (4 * i + b) % 4 = b by omega]
    split
    case isTrue hlast => rw [hlast]
    case isFalse hother => exact h.luma i b (by omega) hi4 hb
  · rw [nccCoefficient_i h4 h8]
    refine ⟨fun i b _ hi hb => h.luma i b (by omega) hi hb, fun j hj hj4 => ?_, fun j hj => by omega⟩
    exact ⟨chroma_read_write hir h4 hj r _ fun hlt => (h.i j hlt hj4).1,
      chroma_read_write hig h4 hj r _ fun hlt => (h.i j hlt hj4).2.1,
      chroma_read_write hib h4 hj r _ fun hlt => (h.i j hlt hj4).2.2⟩
  · rw [nccCoefficient_q h8]
    refine ⟨fun i b _ hi hb => h.luma i b (by omega) hi hb, fun j _ hj4 => h.i j (by omega) hj4, fun j hj hj4 => ?_⟩
    exact ⟨chroma_read_write hqr h8 hj r _ fun hlt => (h.q j hlt hj4).1,
      chroma_read_write hqg h8 hj r _ fun hlt => (h.q j hlt hj4).2.1,
      chroma_read_write hqb h8 hj r _ fun hlt => (h.q j hlt hj4).2.2⟩

theorem nccLoaded_holdsBelow (k : TableFields) (r : Nat → Word) {m : Nat} (hm : m ≤ 12) :
    (nccLoaded k r m).HoldsBelow m k r := by
  induction m with
  | zero => exact ⟨fun i b hi => by omega, fun j hj => by omega, fun j hj => by omega⟩
  | succ m ih =>
    rw [nccLoaded_succ]
    exact (ih (by omega)).write (nccLoaded_ok k r (by omega)) hm

/-- The table that RESET builds holds the coefficients of its registers (R421). -/
theorem nccFromRegisters_holds (k : TableFields) (regs : Memory 32) (bank base : Nat) :
    (nccFromRegisters k regs bank base).Holds k fun n => regs.read (bank * 256 + (base + n)) := by
  simp only [nccFromRegisters_eq_loaded, Nat.add_assoc]
  exact (nccLoaded_holdsBelow k _ le_rfl).holds

/-! ## What the policy supplies (R421) -/

/-- The unit `g` has the RAM, iterators and palettes of `v`. -/
def Tmu.Takes (g : Tmu) (v : UnitValues) : Prop :=
  g.ram = v.ram ∧ g.s = v.s ∧ g.t = v.t ∧ g.w = v.w ∧ g.palette = v.palette ∧ g.palettea = v.palettea

/-- The FBI `f` has the RAM, vertices, iterators, fog tables and vertex ring of `v`. -/
structure Fbi.Takes (f : Fbi) (v : ResetValues) : Prop where
  ram : f.ram = v.fbRam
  va : f.va = v.va
  vb : f.vb = v.vb
  vc : f.vc = v.vc
  r : f.r = v.r
  g : f.g = v.g
  b : f.b = v.b
  a : f.a = v.a
  z : f.z = v.z
  w : f.w = v.w
  fogblend : f.fogblend = v.fogblend
  fogdelta : f.fogdelta = v.fogdelta
  svert0 : f.svert0 = v.svert0
  svert1 : f.svert1 = v.svert1
  svert2 : f.svert2 = v.svert2

/-- The values of unit `u` of the two. -/
def resetUnitValues (v : ResetValues) (u : Nat) : UnitValues := if u = 0 then v.tmu0 else v.tmu1

/-- The REFERENCE policy gives both units zeros. -/
theorem resetUnitValues_reference (u : Nat) : resetUnitValues referenceValues u = referenceUnit := ite_self _

theorem resetUnit_takes (c : Config) (regs : Memory 32) (u : Nat) (v : UnitValues) : (resetUnit c regs u v).Takes v :=
  ⟨rfl, rfl, rfl, rfl, rfl, rfl⟩

/-- The layout places the buffers and leaves what the policy supplies (R380). -/
theorem layoutOf_resetFbi_takes (s : State) (c : Config) (v : ResetValues) : (layoutOf s (resetFbi c v)).Takes v := by
  rw [layoutOf_eq_placed]
  exact ⟨rfl, rfl, rfl, rfl, rfl, rfl, rfl, rfl, rfl, rfl, rfl, rfl, rfl, rfl, rfl⟩

theorem resetTo_fbi_takes (c : Config) (q : ResetPolicy) (s : State) :
    (resetTo c q s).fbi.Takes (resetValues q) := layoutOf_resetFbi_takes _ c _

/-- The registers of the REFERENCE policy, slot by slot: five init registers, 0 elsewhere (R421). -/
theorem referenceValues_read {bank i : Nat} (hi : i < 256) : referenceValues.regs.read (bank * 256 + i) =
    if bank = 0 ∧ i = 0x80 then 0x00000001 else if bank = 0 ∧ i = 0x84 then 0x00000410
    else if bank = 0 ∧ i = 0x85 then 0x00201102 else if bank = 0 ∧ i = 0x86 then 0x80000040
    else if bank = 0 ∧ i = 0x87 then 0x001E4000 else 0 := by
  have slot : ∀ n, n < 256 → (n = bank * 256 + i ↔ bank = 0 ∧ i = n) := fun n hn => by omega
  simp only [referenceValues, Memory.read_cons, Memory.read_nil, slot 0x80 (by decide), slot 0x84 (by decide),
    slot 0x85 (by decide), slot 0x86 (by decide), slot 0x87 (by decide)]

/-! ## The FBI and its layout (R421, R422) -/

/-- The buffers start at the configured indices, a missing third buffer apart (R19, R380). -/
theorem layoutOf_frontbuf (s : State) (f : Fbi) : (layoutOf s f).frontbuf =
    if f.frontbuf = 2 ∧ (layoutOf s f).rgb2 = none then 0 else f.frontbuf := by
  rw [layoutOf_eq_placed]
  simp [Fbi.placed, bufferIndex, and_comm]

theorem layoutOf_backbuf (s : State) (f : Fbi) : (layoutOf s f).backbuf =
    if f.backbuf = 2 ∧ (layoutOf s f).rgb2 = none then 0 else f.backbuf := by
  rw [layoutOf_eq_placed]
  simp [Fbi.placed, bufferIndex, and_comm]

theorem layoutOf_sverts (s : State) (f : Fbi) : (layoutOf s f).sverts = f.sverts := by rw [layoutOf_eq_placed]; rfl
theorem layoutOf_swapCount (s : State) (f : Fbi) : (layoutOf s f).swapCount = f.swapCount := by
  rw [layoutOf_eq_placed]; rfl
theorem layoutOf_vblank (s : State) (f : Fbi) : (layoutOf s f).vblank = f.vblank := by rw [layoutOf_eq_placed]; rfl

/-- RESET runs the layout once, and its result is the layout of the registers (R422). -/
theorem resetTo_layout (c : Config) (q : ResetPolicy) (s : State) :
    (resetTo c q s).fbi = layoutOf (resetTo c q s) (resetTo c q s).fbi := by
  have hregs : ∀ s : State, layoutOf (recomputeLayout s) = layoutOf s := fun s => layoutOf_regs rfl rfl
  unfold resetTo
  simp only [hregs]
  exact (layoutOf_idem _ _).symm

/-! ## The texture units (R421) -/

theorem resetTo_tmu (c : Config) (q : ResetPolicy) (s : State) {u : Nat} (hu : u < 2) :
    (resetTo c q s).tmu u = resetUnit c (resetValues q).regs u (resetUnitValues (resetValues q) u) := by
  obtain rfl | rfl : u = 0 ∨ u = 1 := by omega
  · rfl
  · rfl

theorem resetTo_tmu_takes (c : Config) (q : ResetPolicy) (s : State) {u : Nat} (hu : u < 2) :
    ((resetTo c q s).tmu u).Takes (resetUnitValues (resetValues q) u) := by
  rw [resetTo_tmu c q s hu]
  exact resetUnit_takes _ _ _ _

/-- A recompute of a unit after RESET clears its mark and changes no table: they are those of its registers. -/
theorem resetTo_recomputeUnit (c : Config) (q : ResetPolicy) (s : State) {u : Nat} (hu : u < 2) :
    recomputeUnit u (resetTo c q s) =
      (resetTo c q s).setTmu u { (resetTo c q s).tmu u with regdirty := false } := by
  unfold recomputeUnit
  rw [resetTo_tmu c q s hu]
  rfl

theorem resetUnit_ncc (c : Config) (regs : Memory 32) (u : Nat) (v : UnitValues) (i : Fin 2) :
    (resetUnit c regs u v).ncc i =
      nccFromRegisters c.constants.tables regs (u + 1) (if i = 0 then 0xC9 else 0xD5) := by
  fin_cases i <;> rfl

/-! ## The answer of RESET (R420) -/

theorem execReset_supported {c : Config} (hfb : supportedSize c.fbmemBytes = true)
    (htm : supportedSize c.tmumemBytes = true) (q : ResetPolicy) (s : State) :
    execReset c q s = .next (resetTo c q s) := by
  unfold execReset
  rw [hfb, htm]
  rfl

theorem execReset_unsupported {c : Config} (h : supportedSize c.fbmemBytes = false ∨ supportedSize c.tmumemBytes = false)
    (q : ResetPolicy) (s : State) : execReset c q s = .next (resetBad c s) := by
  have hand : (supportedSize c.fbmemBytes && supportedSize c.tmumemBytes) = false := Bool.and_eq_false_iff.mpr h
  unfold execReset
  rw [hand]
  rfl

/-- `State.reset` is what a RESET of the standard V1 chip under the REFERENCE policy makes of it (R420). -/
theorem resetTo_standard : resetTo (Config.standard .v1) .reference State.reset = State.reset := by decide

/-- Settles O57: the reset state is the state of a RESET, which has the invariant, and both its units are dirty. -/
theorem resetStateHasTheInvariant : Obligations.ResetStateHasTheInvariant := by
  have hreset : (resetTo (Config.standard .v1) .reference State.reset).InvParts :=
    resetTo_inv (by decide) (by decide) (by decide) State.reset
  rw [resetTo_standard] at hreset
  exact ⟨(State.inv_iff _).mpr hreset, .inl rfl, .inl rfl⟩

/-- Settles O55: the fields that RESET sets itself, then those of the layout, of each unit and of each policy. -/
theorem resetBuildsTheResetState : Obligations.ResetBuildsTheResetState := by
  refine ⟨fun c q s hfb htm => ⟨resetTo c q s, execReset_supported hfb htm q s, rfl, rfl, rfl, rfl, rfl, rfl, rfl, rfl,
    rfl, layoutOf_mask _ _, layoutOf_frontbuf _ _, layoutOf_backbuf _ _, layoutOf_sverts _ _, layoutOf_swapCount _ _,
    layoutOf_vblank _ _, resetTo_layout c q s, fun u hu => ?unit, ?reference, ?arbitrary⟩, rfl,
    fun c q s h => ⟨resetBad c s, execReset_unsupported h q s, rfl, rfl, rfl, rfl, rfl⟩⟩
  case unit =>
    refine ⟨?_, ?_, resetTo_recomputeUnit c q s hu, fun i => ?_⟩
    · rw [resetTo_tmu c q s hu]
      rfl
    · rw [resetTo_tmu c q s hu]
      rfl
    · rw [resetTo_tmu c q s hu, resetUnit_ncc]
      exact ⟨nccLoaded_dirty _ _ 12, nccLoaded_texel _ _ 12, nccFromRegisters_holds _ _ _ _⟩
  case reference =>
    rintro rfl
    have hf := resetTo_fbi_takes c .reference s
    refine ⟨fun bank i _ hi => referenceValues_read hi, rfl, hf.ram, hf.fogblend, hf.fogdelta, hf.va, hf.vb, hf.vc, hf.r,
      hf.g, hf.b, hf.a, hf.z, hf.w, hf.svert0, hf.svert1, hf.svert2, fun u hu => ?_⟩
    have hu := resetTo_tmu_takes c .reference s hu
    rw [resetValues, resetUnitValues_reference] at hu
    exact hu
  case arbitrary =>
    rintro a rfl
    have hf := resetTo_fbi_takes c (.arbitrary a) s
    refine ⟨rfl, rfl, hf.ram, hf.va, hf.vb, hf.vc, hf.r, hf.g, hf.b, hf.a, hf.z, hf.w, hf.fogblend, hf.fogdelta,
      hf.svert0, hf.svert1, hf.svert2, ?_⟩
    simp only [List.forall_mem_cons, List.not_mem_nil, false_implies, implies_true, and_true]
    exact ⟨resetTo_tmu_takes c (.arbitrary a) s Nat.two_pos, resetTo_tmu_takes c (.arbitrary a) s Nat.one_lt_two⟩

end Sys2Proof.Machine
end
